-- ==== Sys2Proof/Word.lean ====
section
/-! DEFINITION. The word types: a host register word (R33), a 16-bit register field, a byte lane (R83) and the
Bit Sequence (R11). -/

namespace Sys2Proof

/-- A 32-bit host register, and the one command word (R33, R120). -/
abbrev Word := BitVec 32

/-- A 16-bit register field (TX_LEN.LEN, CHAIN_N.COUNT, RX_LEN.LEN, DESC_IRLEN, DV_*). -/
abbrev Half := BitVec 16

/-- One byte lane of a register word (R83). -/
abbrev Byte := BitVec 8

/-- A bit sequence, head first (R11). -/
abbrev Bits := List Bool

end Sys2Proof
end

