-- ==== Sys2Proof/Config.lean ====
section
/-! DEFINITION. What an implementation fixes (the parameters of R7, taken as an argument: State carries one `Params`
that no step changes, log 2), and the free values (logs 11, 24, 25 and 28). -/

namespace Sys2Proof.Config

/-- The implementation parameters of R7. -/
structure Params where
  /-- MAX_DEVICES: the largest device count the descriptor table holds. -/
  maxDevices : Nat
  /-- MAX_IRLEN: the largest IR length of one device. -/
  maxIrlen : Nat
  /-- MAX_SEQ_BITS: the capacity in bits of the TX buffer and of the RX buffer. -/
  maxSeqBits : Nat
  /-- DR_PROBE_MAX: the run length M of the DR-length probe (R186). -/
  drProbeMax : Nat
  deriving DecidableEq, Repr

/-- R7: the reference values. -/
def reference : Params :=
  { maxDevices := 32, maxIrlen := 32, maxSeqBits := 4096, drProbeMax := 4096 }

/-- R49, R50: how many 32-bit words each sequence buffer has. -/
def Params.seqWords (p : Params) : Nat := p.maxSeqBits / 32

/-- R7: MAX_SCAN_BITS, the longest sequence the controller hands to the Scan Driver. -/
def Params.maxScanBits (p : Params) : Nat :=
  max (p.maxDevices * p.maxIrlen) (max (p.maxDevices - 1 + p.maxSeqBits) (2 * p.drProbeMax))

/-- FREE VALUE (logs 11, 24 and 28): the bits of a chain that a reset, an empty scan answered with a TransportError, or a response
that arrived as an input left in a state nobody knows (R321, I13, R288, I14). The arguments are the
serial number of the last request on the port, the device's index, the register (0 the IR, k + 1 the k-th data register of
the device's table) and the bit. Nothing is known of it. -/
opaque unknownChainBit : Nat → Nat → Nat → Nat → Bool

/-- FREE VALUE (logs 25 and 28): whether the attached driver completes a scan that a reset abandons (R321), or that a response
which arrived as an input answers, by the serial number of its request. Nothing is known of it. -/
opaque abandonedScanCompletes : Nat → Bool

end Sys2Proof.Config
end

