-- ==== Sys2Proof/Syntax.lean ====
section
/-! DEFINITION. The commands: one constructor per row of spec/opcode_table.json (R122). `dev` is the DEV field, an unsigned
device index (R121); the chain commands carry it too, although they ignore it (R125), so that no bit of a word is lost. -/

namespace Sys2Proof

/-- The 15 host commands (R122). -/
inductive Instr where
  /-- LOAD_CHAIN (R180). -/
  | loadChain (dev : Nat)
  /-- CLEAR_CHAIN (R181). -/
  | clearChain (dev : Nat)
  /-- DEVICE_COUNT (R188). -/
  | deviceCount (dev : Nat)
  /-- TOTAL_IR_LENGTH (R189). -/
  | totalIrLength (dev : Nat)
  /-- TOTAL_DR_LENGTH (R190). -/
  | totalDrLength (dev : Nat)
  /-- DEVICE_VIEW (R191). -/
  | deviceView (dev : Nat)
  /-- WRITE_IR (R211). -/
  | writeIr (dev : Nat)
  /-- READ_WRITE_IR (R212). -/
  | readWriteIr (dev : Nat)
  /-- VERIFY_IR_CAPTURE (R213). -/
  | verifyIrCapture (dev : Nat)
  /-- WRITE_DR (R231). -/
  | writeDr (dev : Nat)
  /-- READ_WRITE_DR (R232). -/
  | readWriteDr (dev : Nat)
  /-- CURRENT_DR_LENGTH (R233). -/
  | currentDrLength (dev : Nat)
  /-- VERIFY_DR_LENGTH (R234). -/
  | verifyDrLength (dev : Nat)
  /-- CHECK_DR (R235). -/
  | checkDr (dev : Nat)
  /-- SURVEY (R260). -/
  | survey (dev : Nat)
  deriving DecidableEq, Repr

/-- The DEV field of a command (R120). -/
def Instr.dev : Instr → Nat
  | .loadChain d => d
  | .clearChain d => d
  | .deviceCount d => d
  | .totalIrLength d => d
  | .totalDrLength d => d
  | .deviceView d => d
  | .writeIr d => d
  | .readWriteIr d => d
  | .verifyIrCapture d => d
  | .writeDr d => d
  | .readWriteDr d => d
  | .currentDrLength d => d
  | .verifyDrLength d => d
  | .checkDr d => d
  | .survey d => d

end Sys2Proof
end

