-- ==== Sys2Proof/WellFormed.lean ====
section
/-! DEFINITION. What makes a command and a set of parameters well formed. -/

namespace Sys2Proof

/-- R121: DEV is an 8-bit field, so a command of the machine names a device index below 256. -/
def Instr.wf (i : Instr) : Bool := decide (i.dev < 256)

/-- The constraints of R7 on the parameters. DESIGN CHOICE (log 26): R7 bounds DR_PROBE_MAX only below, and so does this, although
R234 takes it to be at most 2^31; with more, an observed length can lie past what `enc32` tells apart. -/
def Config.Params.wf (p : Config.Params) : Bool :=
  decide (1 ≤ p.maxDevices) && decide (p.maxDevices ≤ 256) &&
  decide (2 ≤ p.maxIrlen) && decide (p.maxIrlen ≤ 32) &&
  decide (p.maxSeqBits % 32 = 0) && decide (p.maxIrlen ≤ p.maxSeqBits) && decide (p.maxSeqBits ≤ 32768) &&
  decide (1 ≤ p.drProbeMax)

end Sys2Proof
end

