-- ==== Sys2Proof/Decode.lean ====
section
/-! DEFINITION. The decoder of R129, total on every 32-bit word and rejecting by name, and after it the encoder. -/

namespace Sys2Proof

/-- Why a word is no command (R123, R124). -/
inductive Illegal where
  /-- OP is reserved (R123). -/
  | opcode
  /-- OP is defined and RES0 or RES1 is not zero (R124). -/
  | reservedField
  deriving DecidableEq, Repr

/-- What a word decodes to (R129). -/
inductive Decoded where
  | command (i : Instr)
  | illegal (why : Illegal)
  deriving DecidableEq, Repr

/-- The OP field, bits [4:0] (R120). -/
def fieldOp (w : Word) : BitVec 5 := w.extractLsb' 0 5

/-- The RES0 field, bits [7:5] (R120). -/
def fieldRes0 (w : Word) : BitVec 3 := w.extractLsb' 5 3

/-- The DEV field, bits [15:8] (R120). -/
def fieldDev (w : Word) : BitVec 8 := w.extractLsb' 8 8

/-- The RES1 field, bits [31:16] (R120). -/
def fieldRes1 (w : Word) : BitVec 16 := w.extractLsb' 16 16

/-- The opcode map of R122: the command an OP value names, on a device index; none for a reserved OP (R123). -/
def commandOf (op d : Nat) : Option Instr :=
  match op with
  | 0x01 => some (.loadChain d)
  | 0x02 => some (.clearChain d)
  | 0x03 => some (.deviceCount d)
  | 0x04 => some (.totalIrLength d)
  | 0x05 => some (.totalDrLength d)
  | 0x06 => some (.deviceView d)
  | 0x08 => some (.writeIr d)
  | 0x09 => some (.readWriteIr d)
  | 0x0A => some (.verifyIrCapture d)
  | 0x10 => some (.writeDr d)
  | 0x11 => some (.readWriteDr d)
  | 0x12 => some (.currentDrLength d)
  | 0x13 => some (.verifyDrLength d)
  | 0x14 => some (.checkDr d)
  | 0x18 => some (.survey d)
  | _ => none

/-- R129: the opcode is tested first, then the reserved fields. -/
def decode (w : Word) : Decoded :=
  match commandOf (fieldOp w).toNat (fieldDev w).toNat with
  | none => .illegal .opcode
  | some i => if fieldRes0 w ≠ 0 ∨ fieldRes1 w ≠ 0 then .illegal .reservedField else .command i

/-- The command of a table row's bits: a command is exactly one 32-bit word (R120), and bits above `nbits` are 0. -/
def decodeTableWord (nbits w : Nat) : Option Instr :=
  match decode (BitVec.ofNat 32 (w % 2 ^ nbits)) with
  | .command i => some i
  | .illegal _ => none

/-- The OP value of each command (R122). -/
def opcodeOf : Instr → Nat
  | .loadChain _ => 0x01
  | .clearChain _ => 0x02
  | .deviceCount _ => 0x03
  | .totalIrLength _ => 0x04
  | .totalDrLength _ => 0x05
  | .deviceView _ => 0x06
  | .writeIr _ => 0x08
  | .readWriteIr _ => 0x09
  | .verifyIrCapture _ => 0x0A
  | .writeDr _ => 0x10
  | .readWriteDr _ => 0x11
  | .currentDrLength _ => 0x12
  | .verifyDrLength _ => 0x13
  | .checkDr _ => 0x14
  | .survey _ => 0x18

/-- R131: the word of a command is `(d << 8) | OP`, its reserved fields zero. -/
def encode (i : Instr) : Word := BitVec.ofNat 32 ((i.dev <<< 8) ||| opcodeOf i)

/-- The mask of every row of the opcode table (R129). -/
def rowMask : Word := 0xFFFF00FF#32

/-- The match value of a command's row: its OP value (R129). -/
def rowMatch (i : Instr) : Word := BitVec.ofNat 32 (opcodeOf i)

end Sys2Proof
end

