-- ==== Sys2Proof/Machine/BitSeq.lean ====
section
/-! DEFINITION. The Bit Sequence primitives (40_bit_sequence.md). A primitive that can fail answers `none` for its RangeError
(R152, R157 to R159); a command that met one would record a fault, never pad or truncate (R161). -/

namespace Sys2Proof.Machine

/-- R150: the run of `n` set bits. -/
def ones (n : Nat) : Bits := List.replicate n true

/-- R151: the run of `n` clear bits. -/
def zeros (n : Nat) : Bits := List.replicate n false

/-- R152's sequence, for a value that fits: the low `width` bits of `x`, most significant first. -/
def bitsOf : Nat → Nat → Bits
  | _, 0 => []
  | x, width + 1 => x.testBit width :: bitsOf x width

/-- R152: `fromValue`, which fails when `x` does not fit. -/
def fromValue (x width : Nat) : Option Bits :=
  if x < 2 ^ width then some (bitsOf x width) else none

/-- R153, R12: the unsigned integer a sequence spells, most significant bit first. -/
def toValue : Bits → Nat
  | [] => 0
  | b :: s => (if b then 2 ^ s.length else 0) + toValue s

/-- R154: concatenation. -/
def append (a b : Bits) : Bits := a ++ b

/-- R155. -/
def appendOnes (a : Bits) (n : Nat) : Bits := append a (ones n)

/-- R156. -/
def appendZeros (a : Bits) (n : Nat) : Bits := append a (zeros n)

/-- R157: remove the first `n` bits; fails when there are fewer. -/
def dropHead (s : Bits) (n : Nat) : Option Bits :=
  if n ≤ s.length then some (s.drop n) else none

/-- R158: remove the last `n` bits; fails when there are fewer. -/
def dropTail (s : Bits) (n : Nat) : Option Bits :=
  if n ≤ s.length then some (s.take (s.length - n)) else none

/-- R159's loop: cut the pieces one after another and read each as an integer. -/
def splitPieces : Bits → List Nat → List Nat
  | _, [] => []
  | s, l :: ls => toValue (s.take l) :: splitPieces (s.drop l) ls

/-- R159: `split`, which fails when the lengths do not sum to the sequence's. -/
def split (s : Bits) (lengths : List Nat) : Option (List Nat) :=
  if lengths.sum = s.length then some (splitPieces s lengths) else none

/-- R187: the number of leading zeros of a sequence. -/
def leadingZeros : Bits → Nat
  | [] => 0
  | true :: _ => 0
  | false :: s => leadingZeros s + 1

/-- R13: `enc32`, the 32-bit two's-complement encoding of an integer. -/
def enc32 (i : Int) : Word := BitVec.ofInt 32 i

/-- R13: `sext_32`, the integer a word encodes in two's complement. -/
def sext32 (w : Word) : Int := w.toInt

/-- R13: `zext_32` of a count; R17 says no count of a legal chain exceeds 32 bits. -/
def zext32 (n : Nat) : Word := BitVec.ofNat 32 n

end Sys2Proof.Machine
end

