-- ==== Sys2Proof/Machine/State.lean ====
section
/-! DEFINITION. The state as plain data (10_state.md), the reasons a step can stop, and reset (R65). -/

namespace Sys2Proof.Machine

/-- Why a run stops with a fault. No fault is an error of a command: those are reports in STATUS (R280) and next states. -/
inductive Fault where
  /-- A Bit Sequence primitive went out of range inside a command (R161, I1, I3): the spec has a model record a fault there.
  Raised by the strips of R210 and R230 and by SURVEY's `fromValue`. Unreachable from a legal state; safe: it stops. -/
  | primitiveRange
  /-- A command was run at a position its pseudocode does not have. The model's own (log 17), raised by every meaning.
  Unreachable from a legal state; safe: it stops. -/
  | badPosition
  deriving DecidableEq, Repr

/-- Why a run is refused. -/
inductive Refusal where
  /-- An instruction with no meaning in this model, by its mnemonic. Raised by no arm of `exec`; safe. -/
  | notModelled (mnemonic : String)
  /-- R81, I12: a host access that is not a 32-bit aligned access below 0x4000 has no step. Raised by a host read or write;
  safe: the spec has a model refuse it. -/
  | outsideInterface (addr size : Nat)
  deriving DecidableEq, Repr

/-- R127: the error classes. -/
inductive ErrClass where
  | ok | transport | range | protocolMismatch | illegalCommand | notConfigured
  deriving DecidableEq, Repr

/-- R128: the detail codes; each belongs to one class, so ERR is a view of DETAIL. -/
inductive Detail where
  | none
  | driverFailure | captureLength | probeNoEdge | probeInconsistent
  | devIndex | txLen | irWidth | irlenTooShort | expectCapacity | chainN | descIrlen
  | drLength
  | opcode | reservedField | alreadyConfigured
  | notConfigured
  deriving DecidableEq, Repr

/-- R93: the kind of a scan request. -/
inductive ScanKind where
  | ir | dr
  deriving DecidableEq, Repr

/-- R92: one Scan Driver request; `idle` is 0 for an IR scan (R93, R100). -/
structure ScanReq where
  kind : ScanKind
  bits : Bits
  idle : Word
  capture : Bool
  deriving DecidableEq, Repr

/-- R92, R93: the Scan Driver's response. `ok` carries the captured sequence, empty where the driver returned none (log 6). -/
inductive Response where
  | ok (data : Bits)
  | transportError
  deriving DecidableEq, Repr

/-- What a command sees of a response: the captured sequence `o` of R14, or the TransportError it raises (R94, R97). -/
inductive Reply where
  | ok (o : Bits)
  | failed (e : Detail)
  deriving DecidableEq, Repr

/-- R31: the execution phase. -/
inductive Phase where
  | idle
  | running (w : Word)
  | waitScan (req : ScanReq)
  | waitAck
  deriving DecidableEq, Repr

/-- Which line of the running command's pseudocode comes next (log 5). -/
inductive Pos where
  /-- Its checks and first stretch. -/
  | start
  /-- After its IR scan. -/
  | ir
  /-- After its DR-length probe. -/
  | probe
  /-- After its DR transfer. -/
  | dr
  /-- After `EmitRecord`: a survey record is out (R262). -/
  | record
  deriving DecidableEq, Repr

/-- R104: one data register of a reference device, selected by the IR value `sel`. -/
structure DataReg where
  /-- The IR value that selects it. -/
  sel : Bits
  /-- `dr_d(sel)`, whose length is `drlen_d(sel)`. -/
  contents : Bits
  /-- `capDR_d(sel)` where the vector gives a constant; none: it captures its contents (R108). -/
  capture : Option Bits
  /-- R107: a capture-only register is not updated. -/
  captureOnly : Bool
  deriving DecidableEq, Repr

/-- R104: one device of the reference chain. -/
structure RefDevice where
  /-- `ir_d`, whose length is `irlen_d`. -/
  ir : Bits
  /-- `capIR_d` where it is a constant (R108); none: the current `ir_d`, which is the delayed-echo stub (R110). -/
  captureIr : Option Bits
  /-- The data registers; an instruction that none names selects one bit, as BYPASS does (log 9). -/
  regs : List DataReg
  deriving DecidableEq, Repr

/-- R99, I8: EMPTY_SCAN_BEHAVIOUR. -/
inductive EmptyScan where
  | noop | transportError
  deriving DecidableEq, Repr

/-- R104: the reference chain; with `captureIr = none` throughout it is the delayed-echo stub (R110). -/
structure RefChain where
  devices : List RefDevice
  /-- The set F of scan ordinals that fail. -/
  fails : List Nat
  /-- How many scans the chain has answered since its start state. -/
  scans : Nat
  emptyScan : EmptyScan
  deriving DecidableEq, Repr

/-- The Scan Driver attached to the port (log 8). -/
inductive Driver where
  /-- None attached: a response arrives only as an input; if none does, the block hangs (R95). -/
  | external
  /-- SCR of 95_test_vectors.md: the listed responses in order, then none. -/
  | scripted (rs : List Response)
  /-- REC (R109), with its log, oldest first. -/
  | recording (log : List ScanReq)
  /-- RC or ECHO (R104 to R110). -/
  | chain (rc : RefChain)
  deriving DecidableEq, Repr

/-- One input: what the next step is about (log 1). -/
inductive Input where
  /-- The controller moves (or the attached driver answers). -/
  | tick
  /-- `MemWrite(addr, size, v)` (R14). -/
  | write (addr size : Nat) (v : Word)
  /-- `MemRead(addr, size)` (R14). -/
  | read (addr size : Nat)
  /-- The reset input `rst` (R320). -/
  | reset
  /-- The external Scan Driver responds to the `serial`-th request put on the port (log 7). -/
  | respond (serial : Nat) (r : Response)
  /-- The host statement `poll` (R132, log 18). -/
  | poll
  /-- The host statement `waitrec` (R132, log 18). -/
  | waitRec
  deriving DecidableEq, Repr

/-- Everything the spec gives the machine, and the model's own fields (INVENTORY.md, State). -/
structure State where
  /-- The parameters of R7. The model's own field: no step changes it (log 2). -/
  cfg : Config.Params
  /-- R31. BUSY and REC_VALID are views of it (R34). -/
  phase : Phase
  /-- Position in the running command's pseudocode (log 5). -/
  pos : Pos
  /-- The last scan's response as the pseudocode sees it (log 5). -/
  reply : Reply
  /-- CMD (R35). -/
  cmd : Word
  /-- TX_LEN.LEN (R36). -/
  txLen : Half
  /-- IDLE.CYCLES (R37). -/
  idle : Word
  /-- EXPECT.LENGTH (R38). -/
  expect : Word
  /-- CHAIN_N.COUNT (R39). -/
  chainN : Half
  /-- STATUS.CONFIGURED (R34, R52). -/
  configured : Bool
  /-- STATUS.BOOL (R34). -/
  boolFlag : Bool
  /-- STATUS.OVERRUN (R34, R63). -/
  overrun : Bool
  /-- STATUS.DETAIL, and so STATUS.ERR (R34, R128). -/
  detail : Detail
  /-- RX_LEN.LEN (R40). -/
  rxLen : Half
  /-- RESULT (R41). -/
  result : Word
  /-- MM_INSTR (R42). -/
  mmInstr : Word
  /-- MM_OBSERVED (R42). -/
  mmObserved : Word
  /-- MM_EXPECTED (R42). -/
  mmExpected : Word
  /-- SURV_IR (R43). -/
  survIr : Word
  /-- SURV_STAT.DETAIL, and so SURV_STAT.ERR (R43). -/
  survStat : Detail
  /-- SURV_DRLEN (R43). -/
  survDrlen : Word
  /-- DV_IDCODE (R45). -/
  dvIdcode : Word
  /-- DV_IRLEN (R45). -/
  dvIrlen : Half
  /-- DV_IRLEN_BEFORE (R45). -/
  dvIrlenBefore : Half
  /-- DV_IRLEN_AFTER (R45). -/
  dvIrlenAfter : Half
  /-- DV_DEVS_BEFORE (R45). -/
  dvDevsBefore : Half
  /-- DV_DEVS_AFTER (R45). -/
  dvDevsAfter : Half
  /-- The TX buffer, the RX buffer and the descriptor table (R49 to R51), as byte cells at their host addresses. -/
  mem : List Host.Cell
  /-- The survey cursor's device `sd` (R53). -/
  survDev : Nat
  /-- The survey cursor's next IR value `sv` (R53). -/
  survNext : Nat
  /-- SURVEY's local `count` (R260, log 5). -/
  survCount : Nat
  /-- The inputs still to arrive. The model's own field (log 1). -/
  inbox : List Input
  /-- The attached Scan Driver. The model's own field (log 8). -/
  driver : Driver
  /-- How many requests have been put on the port. The model's own field (log 7). -/
  issued : Nat
  /-- The value the last host read returned. The model's own field (log 12). -/
  readData : Word
  deriving DecidableEq, Repr

/-- R65, R320: the machine right after reset. The survey cursor is unspecified there (R53): 0 is log 3's choice. The model's
own fields stand as their logs say: reference parameters, no input, no attached driver. -/
def State.reset : State :=
  { cfg := Config.reference, phase := .idle, pos := .start, reply := .ok [],
    cmd := 0, txLen := 0, idle := 0, expect := 0, chainN := 0,
    configured := false, boolFlag := false, overrun := false, detail := .none,
    rxLen := 0, result := 0, mmInstr := 0, mmObserved := 0, mmExpected := 0,
    survIr := 0, survStat := .none, survDrlen := 0,
    dvIdcode := 0, dvIrlen := 0, dvIrlenBefore := 0, dvIrlenAfter := 0, dvDevsBefore := 0, dvDevsAfter := 0,
    mem := [], survDev := 0, survNext := 0, survCount := 0,
    inbox := [], driver := .external, issued := 0, readData := 0 }

/-- What one step, or one command's stretch, answers. -/
abbrev Result := Host.Outcome State Fault Refusal

end Sys2Proof.Machine
end

