-- ==== Sys2Proof/Machine/Ops.lean ====
section
/-! DEFINITION. The named operations over memory and registers, the command lifecycle (R60 to R62), raising an error as one
shared operation (R287) with finishing beside it, and issuing a scan and taking its response (R92 to R97). -/

namespace Sys2Proof.Machine

/-! ### Memory: the three windows of the register space -/

/-- What a byte that no cell lists reads as: the reset contents of every window (R49 to R51, R65). -/
def unlistedByte : Byte := 0

/-- One byte of the windows. -/
def readByte : List Host.Cell → Nat → Byte
  | [], _ => unlistedByte
  | (k, b) :: m, a => if k = a then b else readByte m a

/-- Write one byte, keeping the canonical form: the value an unlisted byte reads as is not listed. -/
def writeByte : List Host.Cell → Nat → Byte → List Host.Cell
  | [], a, v => if v = unlistedByte then [] else [(a, v)]
  | (k, b) :: m, a, v =>
    if a < k then (if v = unlistedByte then (k, b) :: m else (a, v) :: (k, b) :: m)
    else if a = k then (if v = unlistedByte then m else (a, v) :: m)
    else (k, b) :: writeByte m a v

/-- Every address listed lies above `a`, they rise strictly, and no listed byte is what an unlisted one reads as. -/
def Memory.wfAbove : Nat → List Host.Cell → Bool
  | _, [] => true
  | a, (k, b) :: m => decide (a ≤ k) && decide (b ≠ unlistedByte) && Memory.wfAbove (k + 1) m

/-- The canonical form: strictly rising addresses, no cell equal to what an unlisted byte reads as. -/
def Memory.wf (m : List Host.Cell) : Bool := Memory.wfAbove 0 m

/-- R83: the word at a byte address, byte lane b carrying bits [8b+7:8b]. -/
def readWord (m : List Host.Cell) (a : Nat) : Word :=
  readByte m (a + 3) ++ readByte m (a + 2) ++ readByte m (a + 1) ++ readByte m a

/-- R83: write a word at a byte address, byte lane by byte lane. -/
def writeWord (m : List Host.Cell) (a : Nat) (v : Word) : List Host.Cell :=
  writeByte (writeByte (writeByte (writeByte m a (v.extractLsb' 0 8)) (a + 1) (v.extractLsb' 8 8))
    (a + 2) (v.extractLsb' 16 8)) (a + 3) (v.extractLsb' 24 8)

/-- Clear the bytes from `lo` on, below `hi`. -/
def clearRange (m : List Host.Cell) (lo hi : Nat) : List Host.Cell :=
  m.filter fun c => decide (c.1 < lo) || decide (hi ≤ c.1)

/-- R33: where the TX buffer stands. -/
def txBase : Nat := 0x1000

/-- R33: where the RX buffer stands. -/
def rxBase : Nat := 0x2000

/-- R33: where the descriptor table stands. -/
def descBase : Nat := 0x3000

/-- R49: the integer the first `n` words from `base` hold, word k weighing `2^(32k)`. -/
def bufferValue (m : List Host.Cell) (base : Nat) : Nat → Nat
  | 0 => 0
  | n + 1 => bufferValue m base n + (readWord m (base + 4 * n)).toNat * 2 ^ (32 * n)

/-- R50: write an integer into the first `n` words from `base`, word k holding bits [32k+31:32k]. -/
def writeBuffer (m : List Host.Cell) (base v : Nat) : Nat → List Host.Cell
  | 0 => m
  | n + 1 => writeWord (writeBuffer m base v n) (base + 4 * n) (BitVec.ofNat 32 (v / 2 ^ (32 * n)))

/-! ### The command lifecycle -/

/-- R34: STATUS.BUSY; phase = Idle exactly when it is 0 (R31). -/
def State.busy (s : State) : Bool := decide (s.phase ≠ .idle)

/-- R34: STATUS.REC_VALID; 1 exactly in phase = WaitAck. -/
def State.recValid (s : State) : Bool := decide (s.phase = .waitAck)

/-- R61: acceptance clears the results of the previous command. (REC_VALID is a view of the phase.) -/
def clearResults (s : State) : State :=
  { s with
    detail := .none, boolFlag := false, overrun := false,
    rxLen := 0, result := 0, mmInstr := 0, mmObserved := 0, mmExpected := 0,
    survIr := 0, survStat := .none, survDrlen := 0,
    dvIdcode := 0, dvIrlen := 0, dvIrlenBefore := 0, dvIrlenAfter := 0, dvDevsBefore := 0, dvDevsAfter := 0,
    mem := clearRange s.mem rxBase (rxBase + 4 * s.cfg.seqWords) }

/-- R60: accept a command word; nothing of the command itself runs in this step. -/
def accept (w : Word) (s : State) : State :=
  { clearResults s with cmd := w, phase := .running w, pos := .start, reply := .ok [] }

/-- R62: completion: BUSY falls and the phase is Idle. -/
def finish (s : State) : State :=
  { s with phase := .idle, pos := .start, reply := .ok [] }

/-- TAKING AN ERROR, the one shared operation (R287): ERR and DETAIL are written and the command completes. CMD keeps the
failing word, and no other result register is written. The host's next command is the return from it (R291). -/
def raise (e : Detail) (s : State) : State :=
  finish { s with detail := e }

/-- R283, R287: a ProtocolMismatchError writes its payload in the same step. -/
def raiseMismatch (instr : Bits) (observed : Int) (s : State) : State :=
  raise .drLength { s with mmInstr := zext32 (toValue instr), mmObserved := enc32 observed, mmExpected := s.expect }

/-- The detail code of a word the decoder rejects (R284). -/
def illegalDetail : Illegal → Detail
  | .opcode => .opcode
  | .reservedField => .reservedField

/-- R286: checks run in order and the first that fails is the one reported. -/
def firstError : List (Bool × Detail) → Option Detail
  | [] => none
  | (failed, e) :: rest => if failed then some e else firstError rest

/-- R286: run the static checks; a failing one ends the command, and it issues no scan. -/
def guarded (checks : List (Bool × Detail)) (s : State) (k : Result) : Result :=
  match firstError checks with
  | some e => .next (raise e s)
  | none => k

/-! ### Scans -/

/-- R92: the request of `ScanIR(s, cap)`; it carries no idle count (R100). -/
def scanIR (bits : Bits) (cap : Bool) : ScanReq :=
  { kind := .ir, bits := bits, idle := 0, capture := cap }

/-- R92: the request of `ScanDR(s, idle, cap)`. -/
def scanDR (bits : Bits) (idle : Word) (cap : Bool) : ScanReq :=
  { kind := .dr, bits := bits, idle := idle, capture := cap }

/-- R95: put a request on the port and wait; `p` says where the pseudocode goes on. -/
def issue (p : Pos) (req : ScanReq) (s : State) : State :=
  { s with phase := .waitScan req, pos := p, issued := s.issued + 1 }

/-- R94, R97: what the pseudocode sees of a response. A capture of another length than the scan's is a TransportError; what a
driver returns beside a scan without capture is not looked at (log 6). -/
def replyOf (req : ScanReq) : Response → Reply
  | .transportError => .failed .driverFailure
  | .ok data =>
    if req.capture then (if data.length = req.bits.length then .ok data else .failed .captureLength)
    else .ok []

/-- R95: in WaitScan, taking the response is the one step there is; in any other phase a response changes nothing (R321). -/
def takeResponse (r : Response) (s : State) : State :=
  match s.phase with
  | .waitScan req => { s with phase := .running s.cmd, reply := replyOf req r }
  | .idle => s
  | .running _ => s
  | .waitAck => s

/-- R97: a failed scan ends the command; otherwise the pseudocode goes on with the capture. -/
def onReply (s : State) (k : Bits → Result) : Result :=
  match s.reply with
  | .failed e => .next (raise e s)
  | .ok o => k o

/-- R50, R62: what a command that returns a sequence writes: RX, RX_LEN and RESULT. -/
def putCapture (len : Nat) (r : Bits) (s : State) : State :=
  { s with
    mem := writeBuffer s.mem rxBase (toValue r) s.cfg.seqWords,
    rxLen := BitVec.ofNat 16 len,
    result := zext32 (toValue r) }

end Sys2Proof.Machine
end

