-- ==== Sys2Proof/Machine/Operands.lean ====
section
/-! DEFINITION. Every operand form: the TX operand (R86), the loaded chain's lengths and padding counts (R183), the chain-wide
sequences and the strips (R210, R230), and the DR-length probe (R186, R187). -/

namespace Sys2Proof.Machine

/-- R49: TXVAL. -/
def txVal (s : State) : Nat := bufferValue s.mem txBase s.cfg.seqWords

/-- R50: RXVAL. -/
def rxVal (s : State) : Nat := bufferValue s.mem rxBase s.cfg.seqWords

/-- R86: `TX(n) = bits_n(TXVAL mod 2^n)`. -/
def txOperand (s : State) (n : Nat) : Bits := bitsOf (txVal s % 2 ^ n) n

/-- R126: the operand's length, `TX_LEN.LEN`. -/
def txCount (s : State) : Nat := s.txLen.toNat

/-- R126: the operand a command reads, `TX(TX_LEN.LEN)`. -/
def txArg (s : State) : Bits := txOperand s (txCount s)

/-- R51: DESC_IDCODE[i]. -/
def descIdcode (s : State) (i : Nat) : Word := readWord s.mem (descBase + 8 * i)

/-- R51: DESC_IRLEN[i][15:0]. -/
def descIrlen (s : State) (i : Nat) : Half := (readWord s.mem (descBase + 8 * i + 4)).extractLsb' 0 16

/-- R15, R52: the device count of the loaded chain, `N`. -/
def devCount (s : State) : Nat := s.chainN.toNat

/-- R183: `irlen(d)`. -/
def irlen (s : State) (d : Nat) : Nat := (descIrlen s d).toNat

/-- The sum of the IR lengths of the `n` devices from `lo` on. -/
def irlenSum (s : State) (lo : Nat) : Nat → Nat
  | 0 => 0
  | n + 1 => irlenSum s lo n + irlen s (lo + n)

/-- R182: `totalIR`. -/
def totalIR (s : State) : Nat := irlenSum s 0 (devCount s)

/-- R183: IR bits of the devices strictly before `d`. -/
def irlenBefore (s : State) (d : Nat) : Nat := irlenSum s 0 d

/-- R183: IR bits of the devices strictly after `d`. -/
def irlenAfter (s : State) (d : Nat) : Nat := irlenSum s (d + 1) (devCount s - 1 - d)

/-- R183: devices strictly before `d`. -/
def devsBefore (_s : State) (d : Nat) : Nat := d

/-- R183: devices strictly after `d`. -/
def devsAfter (s : State) (d : Nat) : Nat := devCount s - 1 - d

/-- R210: the IR chain-wide sequence. -/
def padIR (s : State) (d : Nat) (b : Bits) : Bits :=
  appendOnes (append (ones (irlenBefore s d)) b) (irlenAfter s d)

/-- R230: the DR chain-wide sequence. -/
def padDR (s : State) (d : Nat) (b : Bits) : Bits :=
  appendOnes (append (ones (devsBefore s d)) b) (devsAfter s d)

/-- Drop `pre` bits from the head and then `post` from the tail. -/
def strip (pre post : Nat) (o : Bits) : Option Bits :=
  match dropHead o pre with
  | none => none
  | some t => dropTail t post

/-- R210: keep device `d`'s bits of an IR capture. -/
def stripIR (s : State) (d : Nat) (o : Bits) : Option Bits := strip (irlenBefore s d) (irlenAfter s d) o

/-- R230: keep device `d`'s bits of a DR capture. -/
def stripDR (s : State) (d : Nat) (o : Bits) : Option Bits := strip (devsBefore s d) (devsAfter s d) o

/-- R186: the probe's scan, `ScanDR(zeros(M) ++ ones(M), 0, true)`. -/
def probeReq (s : State) : ScanReq :=
  scanDR (append (zeros s.cfg.drProbeMax) (ones s.cfg.drProbeMax)) 0 true

/-- R187: what a probe's capture says: the length, or why there is none. -/
def evaluateProbe (m : Nat) (o : Bits) : Except Detail Nat :=
  let z := leadingZeros o
  if z = 0 then .error .probeNoEdge
  else if z > m ∨ (o.drop z).take m ≠ ones m then .error .probeInconsistent
  else .ok (m - z)

/-- What a reply to a probe says, a failed scan included (R186, R187). -/
def probeOutcome (s : State) : Except Detail Nat :=
  match s.reply with
  | .failed e => .error e
  | .ok o => evaluateProbe s.cfg.drProbeMax o

/-- R190, R233: a command that probes ends at a failed probe, and otherwise goes on with the length. -/
def onProbe (s : State) (k : Nat → Result) : Result :=
  match probeOutcome s with
  | .error e => .next (raise e s)
  | .ok l => k l

/-- R233: `currentDRLength()`: the probed length less one bit per other device, an integer. -/
def ownDrLength (s : State) (d l : Nat) : Int := (l : Int) - (devsBefore s d : Int) - (devsAfter s d : Int)

/-! ### The static checks of R286, by their step -/

/-- Step 4: no chain is loaded (R285). -/
def checkConfigured (s : State) : Bool × Detail := (!s.configured, .notConfigured)

/-- Step 5: `DEV >= N`. -/
def checkDev (s : State) (d : Nat) : Bool × Detail := (decide (devCount s ≤ d), .devIndex)

/-- Step 6: `TX_LEN.LEN > MAX_SEQ_BITS`. -/
def checkTxLen (s : State) : Bool × Detail := (decide (s.cfg.maxSeqBits < txCount s), .txLen)

/-- Step 7: the IR value is not `irlen(d)` bits wide. -/
def checkIrWidth (s : State) (d : Nat) : Bool × Detail := (decide (txCount s ≠ irlen s d), .irWidth)

/-- Step 7: `irlen(d) < 2`. -/
def checkIrlenTwo (s : State) (d : Nat) : Bool × Detail := (decide (irlen s d < 2), .irlenTooShort)

/-- Step 7: `EXPECT.LENGTH > MAX_SEQ_BITS`. -/
def checkExpect (s : State) : Bool × Detail := (decide (s.cfg.maxSeqBits < s.expect.toNat), .expectCapacity)

/-- R180: some of the first `n` entries has an IR length of 0 or above MAX_IRLEN. -/
def badDescriptor (s : State) : Nat → Bool
  | 0 => false
  | n + 1 => badDescriptor s n || decide (irlen s n = 0) || decide (s.cfg.maxIrlen < irlen s n)

end Sys2Proof.Machine
end

