-- ==== Sys2Proof/Machine/Flags.lean ====
section
/-! DEFINITION. Every flag computation: the codes of R127 and R128, the STATUS and SURV_STAT words, and BOOL. -/

namespace Sys2Proof.Machine

/-- R127: the error class codes. -/
def errCode : ErrClass → BitVec 3
  | .ok => 0
  | .transport => 1
  | .range => 2
  | .protocolMismatch => 3
  | .illegalCommand => 4
  | .notConfigured => 5

/-- R128: the class each detail code belongs to. -/
def errClass : Detail → ErrClass
  | .none => .ok
  | .driverFailure | .captureLength | .probeNoEdge | .probeInconsistent => .transport
  | .devIndex | .txLen | .irWidth | .irlenTooShort | .expectCapacity | .chainN | .descIrlen => .range
  | .drLength => .protocolMismatch
  | .opcode | .reservedField | .alreadyConfigured => .illegalCommand
  | .notConfigured => .notConfigured

/-- R128: the detail codes. -/
def detailCode : Detail → Byte
  | .none => 0x00
  | .driverFailure => 0x01
  | .captureLength => 0x02
  | .probeNoEdge => 0x03
  | .probeInconsistent => 0x04
  | .devIndex => 0x10
  | .txLen => 0x11
  | .irWidth => 0x12
  | .irlenTooShort => 0x13
  | .expectCapacity => 0x14
  | .chainN => 0x15
  | .descIrlen => 0x16
  | .drLength => 0x20
  | .opcode => 0x30
  | .reservedField => 0x31
  | .alreadyConfigured => 0x32
  | .notConfigured => 0x40

/-- The ERR and DETAIL fields in the places STATUS and SURV_STAT share: bits [10:8] and [23:16] (R34, R43). -/
def errorFields (e : Detail) : Word :=
  0#8 ++ detailCode e ++ 0#5 ++ errCode (errClass e) ++ 0#8

/-- A one-bit field. -/
def flagBit (b : Bool) : BitVec 1 := BitVec.ofBool b

/-- R34: the STATUS word; its reserved bits read 0. -/
def statusWord (s : State) : Word :=
  errorFields s.detail |||
    (0#27 ++ flagBit s.overrun ++ flagBit s.boolFlag ++ flagBit s.recValid ++ flagBit s.configured ++ flagBit s.busy)

/-- R43: the SURV_STAT word. -/
def survStatWord (s : State) : Word := errorFields s.survStat

/-- R213: BOOL, the IR-capture self-test's verdict: the bottom two captured bits are 01. -/
def irCaptureOk (r : Bits) : Bool := decide (toValue r % 4 = 1)

end Sys2Proof.Machine
end

