-- ==== Sys2Proof/Machine/Chain.lean ====
section
/-! DEFINITION. The chain commands (41_chain.md). Each meaning is one stretch of the command's pseudocode, chosen by the
position (log 4); the checks of R286 run at its start, in R286's order. -/

namespace Sys2Proof.Machine

/-- R180. -/
def execLoadChain (s : State) : Result :=
  match s.pos with
  | .start =>
    guarded [(s.configured, .alreadyConfigured), (decide (s.cfg.maxDevices < devCount s), .chainN),
        (badDescriptor s (devCount s), .descIrlen)] s
      (.next (finish { s with configured := true }))
  | .ir | .probe | .dr | .record => .fault .badPosition

/-- R181. -/
def execClearChain (s : State) : Result :=
  match s.pos with
  | .start => .next (finish { s with configured := false })
  | .ir | .probe | .dr | .record => .fault .badPosition

/-- R188. -/
def execDeviceCount (s : State) : Result :=
  match s.pos with
  | .start => guarded [checkConfigured s] s (.next (finish { s with result := zext32 (devCount s) }))
  | .ir | .probe | .dr | .record => .fault .badPosition

/-- R189. -/
def execTotalIrLength (s : State) : Result :=
  match s.pos with
  | .start => guarded [checkConfigured s] s (.next (finish { s with result := zext32 (totalIR s) }))
  | .ir | .probe | .dr | .record => .fault .badPosition

/-- R190. -/
def execTotalDrLength (s : State) : Result :=
  match s.pos with
  | .start => guarded [checkConfigured s] s (.next (issue .probe (probeReq s) s))
  | .probe => onProbe s fun l => .next (finish { s with result := zext32 l })
  | .ir | .dr | .record => .fault .badPosition

/-- R191. -/
def execDeviceView (d : Nat) (s : State) : Result :=
  match s.pos with
  | .start =>
    guarded [checkConfigured s, checkDev s d] s
      (.next (finish { s with
        dvIdcode := descIdcode s d,
        dvIrlen := descIrlen s d,
        dvIrlenBefore := BitVec.ofNat 16 (irlenBefore s d),
        dvIrlenAfter := BitVec.ofNat 16 (irlenAfter s d),
        dvDevsBefore := BitVec.ofNat 16 (devsBefore s d),
        dvDevsAfter := BitVec.ofNat 16 (devsAfter s d) }))
  | .ir | .probe | .dr | .record => .fault .badPosition

end Sys2Proof.Machine
end

