-- ==== Sys2Proof/Machine/DeviceDr.lean ====
section
/-! DEFINITION. The device DR commands (43_device_dr.md). -/

namespace Sys2Proof.Machine

/-- R234's second scan: once the instruction is loaded, probe. -/
def probeAfterIr (s : State) : Result :=
  onReply s fun _ => .next (issue .probe (probeReq s) s)

/-- R234's comparison, on integers (D46): a mismatch raises with its payload, a match goes on with the observed length. -/
def compareWidth (d : Nat) (s : State) (k : Int → Result) : Result :=
  onProbe s fun l =>
    if ownDrLength s d l ≠ (s.expect.toNat : Int) then
      .next (raiseMismatch (txArg s) (ownDrLength s d l) s)
    else k (ownDrLength s d l)

/-- R231. -/
def execWriteDr (d : Nat) (s : State) : Result :=
  match s.pos with
  | .start =>
    guarded [checkConfigured s, checkDev s d, checkTxLen s] s
      (.next (issue .dr (scanDR (padDR s d (txArg s)) s.idle false) s))
  | .dr => onReply s fun _ => .next (finish s)
  | .ir | .probe | .record => .fault .badPosition

/-- R232. -/
def execReadWriteDr (d : Nat) (s : State) : Result :=
  match s.pos with
  | .start =>
    guarded [checkConfigured s, checkDev s d, checkTxLen s] s
      (.next (issue .dr (scanDR (padDR s d (txArg s)) s.idle true) s))
  | .dr =>
    onReply s fun o =>
      match stripDR s d o with
      | none => .fault .primitiveRange
      | some r => .next (finish (putCapture (txCount s) r s))
  | .ir | .probe | .record => .fault .badPosition

/-- R233. -/
def execCurrentDrLength (d : Nat) (s : State) : Result :=
  match s.pos with
  | .start => guarded [checkConfigured s, checkDev s d] s (.next (issue .probe (probeReq s) s))
  | .probe => onProbe s fun l => .next (finish { s with result := enc32 (ownDrLength s d l) })
  | .ir | .dr | .record => .fault .badPosition

/-- R234. -/
def execVerifyDrLength (d : Nat) (s : State) : Result :=
  match s.pos with
  | .start =>
    guarded [checkConfigured s, checkDev s d, checkTxLen s, checkIrWidth s d] s
      (.next (issue .ir (scanIR (padIR s d (txArg s)) false) s))
  | .ir => probeAfterIr s
  | .probe => compareWidth d s fun c => .next (finish { s with result := enc32 c })
  | .dr | .record => .fault .badPosition

/-- R235. -/
def execCheckDr (d : Nat) (s : State) : Result :=
  match s.pos with
  | .start =>
    guarded [checkConfigured s, checkDev s d, checkTxLen s, checkIrWidth s d, checkExpect s] s
      (.next (issue .ir (scanIR (padIR s d (txArg s)) false) s))
  | .ir => probeAfterIr s
  | .probe =>
    compareWidth d s fun _ => .next (issue .dr (scanDR (padDR s d (zeros s.expect.toNat)) 0 true) s)
  | .dr =>
    onReply s fun o =>
      match stripDR s d o with
      | none => .fault .primitiveRange
      | some r => .next (finish (putCapture s.expect.toNat r s))
  | .record => .fault .badPosition

end Sys2Proof.Machine
end

