-- ==== Sys2Proof/Machine/DeviceIr.lean ====
section
/-! DEFINITION. The device IR commands (42_device_ir.md). -/

namespace Sys2Proof.Machine

/-- R211. -/
def execWriteIr (d : Nat) (s : State) : Result :=
  match s.pos with
  | .start =>
    guarded [checkConfigured s, checkDev s d, checkTxLen s, checkIrWidth s d] s
      (.next (issue .ir (scanIR (padIR s d (txArg s)) false) s))
  | .ir => onReply s fun _ => .next (finish s)
  | .probe | .dr | .record => .fault .badPosition

/-- R212. -/
def execReadWriteIr (d : Nat) (s : State) : Result :=
  match s.pos with
  | .start =>
    guarded [checkConfigured s, checkDev s d, checkTxLen s, checkIrWidth s d] s
      (.next (issue .ir (scanIR (padIR s d (txArg s)) true) s))
  | .ir =>
    onReply s fun o =>
      match stripIR s d o with
      | none => .fault .primitiveRange
      | some r => .next (finish (putCapture (irlen s d) r s))
  | .probe | .dr | .record => .fault .badPosition

/-- R213. -/
def execVerifyIrCapture (d : Nat) (s : State) : Result :=
  match s.pos with
  | .start =>
    guarded [checkConfigured s, checkDev s d, checkIrlenTwo s d] s
      (.next (issue .ir (scanIR (padIR s d (ones (irlen s d))) true) s))
  | .ir =>
    onReply s fun o =>
      match stripIR s d o with
      | none => .fault .primitiveRange
      | some r => .next (finish { putCapture (irlen s d) r s with boolFlag := irCaptureOk r })
  | .probe | .dr | .record => .fault .badPosition

end Sys2Proof.Machine
end

