-- ==== Sys2Proof/Machine/Survey.lean ====
section
/-! DEFINITION. The topology survey (44_survey.md), its record handshake (R262, R263) and its report line (R264). -/

namespace Sys2Proof.Machine

/-- R260: the survey ends; RESULT is the number of records presented. -/
def surveyFinish (s : State) : State :=
  finish { s with result := zext32 s.survCount }

/-- R260's loop head with the first line of R261: write the cursor's IR value, or end once all values are done. -/
def surveyLoop (s : State) : Result :=
  if s.survNext < 2 ^ irlen s s.survDev then
    match fromValue s.survNext (irlen s s.survDev) with
    | none => .fault .primitiveRange
    | some b => .next (issue .ir (scanIR (padIR s s.survDev b) false) s)
  else .next (surveyFinish s)

/-- R262: `EmitRecord`. A record of an error carries no length. -/
def emitRecord (e : Detail) (drlen : Int) (s : State) : State :=
  { s with
    survIr := zext32 s.survNext, survStat := e,
    survDrlen := if e = .none then enc32 drlen else 0,
    phase := .waitAck, pos := .record, reply := .ok [] }

/-- R261's probe half: its outcome, a failure included, becomes the record. -/
def surveyRecord (s : State) : State :=
  match probeOutcome s with
  | .error e => emitRecord e 0 s
  | .ok l => emitRecord .none (ownDrLength s s.survDev l) s

/-- R260. After a failed IR write no probe is issued for that value (R261, D16). -/
def execSurvey (d : Nat) (s : State) : Result :=
  match s.pos with
  | .start =>
    guarded [checkConfigured s, checkDev s d] s
      (surveyLoop { s with survDev := d, survNext := 0, survCount := 0 })
  | .ir =>
    match s.reply with
    | .failed e => .next (emitRecord e 0 s)
    | .ok _ => .next (issue .probe (probeReq s) s)
  | .probe => .next (surveyRecord s)
  | .dr | .record => .fault .badPosition

/-- R263: a write to SURV_ACK while a record is out. STOP wins over NEXT (D44); with neither bit the write is ignored. -/
def acknowledge (w : Word) (s : State) : Result :=
  if w.getLsbD 1 then
    .next (surveyFinish { s with phase := .running s.cmd, survCount := s.survCount + 1 })
  else if w.getLsbD 0 then
    surveyLoop { s with phase := .running s.cmd, survCount := s.survCount + 1, survNext := s.survNext + 1 }
  else .next s

/-- R127: the class names. -/
def className : ErrClass → String
  | .ok => "OK"
  | .transport => "TRANSPORT"
  | .range => "RANGE"
  | .protocolMismatch => "PROTOCOL_MISMATCH"
  | .illegalCommand => "ILLEGAL_COMMAND"
  | .notConfigured => "NOT_CONFIGURED"

/-- R128: the detail names. -/
def detailName : Detail → String
  | .none => "NONE"
  | .driverFailure => "DRIVER_FAILURE"
  | .captureLength => "CAPTURE_LENGTH"
  | .probeNoEdge => "PROBE_NO_EDGE"
  | .probeInconsistent => "PROBE_INCONSISTENT"
  | .devIndex => "DEV_INDEX"
  | .txLen => "TX_LEN"
  | .irWidth => "IR_WIDTH"
  | .irlenTooShort => "IRLEN_TOO_SHORT"
  | .expectCapacity => "EXPECT_CAPACITY"
  | .chainN => "CHAIN_N"
  | .descIrlen => "DESC_IRLEN"
  | .drLength => "DR_LENGTH"
  | .opcode => "OPCODE"
  | .reservedField => "RESERVED_FIELD"
  | .alreadyConfigured => "ALREADY_CONFIGURED"
  | .notConfigured => "NOT_CONFIGURED"

/-- A decimal integer, as R264's forms print it. -/
def decimal : Int → String
  | .ofNat n => Nat.repr n
  | .negSucc n => "-" ++ Nat.repr (n + 1)

/-- R264: the report line a host renders from the record registers. -/
def reportLine (s : State) : String :=
  if s.survStat = .none then
    "ir " ++ Nat.repr s.survIr.toNat ++ " drlen " ++ decimal (sext32 s.survDrlen)
  else
    "ir " ++ Nat.repr s.survIr.toNat ++ " error " ++ className (errClass s.survStat) ++ " " ++ detailName s.survStat

end Sys2Proof.Machine
end

