-- ==== Sys2Proof/Machine/Dispatch.lean ====
section
/-! DEFINITION. One arm per command. -/

namespace Sys2Proof.Machine

def exec (i : Instr) (s : State) : Host.Outcome State Fault Refusal :=
  match i with
  | .loadChain _ => Sys2Proof.Machine.execLoadChain s
  | .clearChain _ => Sys2Proof.Machine.execClearChain s
  | .deviceCount _ => Sys2Proof.Machine.execDeviceCount s
  | .totalIrLength _ => Sys2Proof.Machine.execTotalIrLength s
  | .totalDrLength _ => Sys2Proof.Machine.execTotalDrLength s
  | .deviceView d => Sys2Proof.Machine.execDeviceView d s
  | .writeIr d => Sys2Proof.Machine.execWriteIr d s
  | .readWriteIr d => Sys2Proof.Machine.execReadWriteIr d s
  | .verifyIrCapture d => Sys2Proof.Machine.execVerifyIrCapture d s
  | .writeDr d => Sys2Proof.Machine.execWriteDr d s
  | .readWriteDr d => Sys2Proof.Machine.execReadWriteDr d s
  | .currentDrLength d => Sys2Proof.Machine.execCurrentDrLength d s
  | .verifyDrLength d => Sys2Proof.Machine.execVerifyDrLength d s
  | .checkDr d => Sys2Proof.Machine.execCheckDr d s
  | .survey d => Sys2Proof.Machine.execSurvey d s

end Sys2Proof.Machine
end

