-- ==== Sys2Proof/Machine/RefChain.lean ====
section
/-! DEFINITION. The Scan Drivers of 20_memory.md section 7 and 95_test_vectors.md: the reference chain RC (R104 to R108), the
delayed-echo stub (R110), the recording stub (R109) and the scripted stub; and the port's signal form (R93). None of these is
normative for the controller. With them stands the port as a response arrives on it (R95, R321). -/

namespace Sys2Proof.Machine

/-- R105: a shift path with captured contents `c` takes `s`: its new contents and the captured output. -/
def shiftPath (s c : Bits) : Bits × Bits :=
  ((s ++ c).take c.length, ((s ++ c).drop c.length).take s.length)

/-- The one-bit register an instruction that no entry names selects: BYPASS captures 0 and holds no visible state (R108, log 9). -/
def bypassReg (ir : Bits) : DataReg :=
  { sel := ir, contents := zeros 1, capture := none, captureOnly := true }

/-- R104: the data register the instruction `ir` selects; all-ones is BYPASS whatever the table says (R9). -/
def selectedReg (d : RefDevice) : DataReg :=
  if d.ir = ones d.ir.length then bypassReg d.ir
  else (d.regs.find? fun r => r.sel = d.ir).getD (bypassReg d.ir)

/-- R108: `capIR_d`, or the current IR for the delayed-echo stub (R110). -/
def captureIrOf (d : RefDevice) : Bits := d.captureIr.getD d.ir

/-- R108: `capDR_d(ir_d)`. -/
def captureDrOf (d : RefDevice) : Bits := (selectedReg d).capture.getD (selectedReg d).contents

/-- R106, R107: cut the new path contents in chain order and give each device its piece. -/
def updateDevices (len : RefDevice → Nat) (put : RefDevice → Bits → RefDevice) : List RefDevice → Bits → List RefDevice
  | [], _ => []
  | d :: ds, r => put d (r.take (len d)) :: updateDevices len put ds (r.drop (len d))

/-- R106: a device's piece becomes its IR. -/
def putIr (d : RefDevice) (piece : Bits) : RefDevice := { d with ir := piece }

/-- R107: a device's piece becomes its selected data register, unless that is BYPASS or capture-only. -/
def putDr (d : RefDevice) (piece : Bits) : RefDevice :=
  if (selectedReg d).captureOnly then d
  else { d with regs := d.regs.map fun r => if r.sel = d.ir then { r with contents := piece } else r }

/-- R106. -/
def chainScanIR (ds : List RefDevice) (s : Bits) : List RefDevice × Bits :=
  let p := shiftPath s (ds.flatMap captureIrOf)
  (updateDevices (fun d => (captureIrOf d).length) putIr ds p.1, p.2)

/-- R107; the idle count has no effect in RC. -/
def chainScanDR (ds : List RefDevice) (s : Bits) : List RefDevice × Bits :=
  let p := shiftPath s (ds.flatMap captureDrOf)
  (updateDevices (fun d => (captureDrOf d).length) putDr ds p.1, p.2)

/-- `n` bits nobody knows (log 11). -/
def unknownBits (seed dev reg n : Nat) : Bits :=
  (List.range n).map (Config.unknownChainBit seed dev reg)

/-- A device whose registers nobody knows; what is capture-only keeps what it captures. -/
def unknownDevice (seed dev : Nat) (d : RefDevice) : RefDevice :=
  { d with
    ir := unknownBits seed dev 0 d.ir.length,
    regs := d.regs.zipIdx.map fun p =>
      if p.1.captureOnly then p.1
      else { p.1 with contents := unknownBits seed dev (p.2 + 1) p.1.contents.length } }

/-- A chain in a state nobody knows: free values in every device (log 11). -/
def unknownChain (seed : Nat) (rc : RefChain) : RefChain :=
  { rc with devices := rc.devices.zipIdx.map fun p => unknownDevice seed p.2 p.1 }

/-- R104 to R108: RC answers one scan. A scan whose ordinal is in F fails and changes nothing; an empty scan does what
EMPTY_SCAN_BEHAVIOUR says (R99, I8). DESIGN CHOICE (log 24): an empty scan answered with a TransportError leaves free values in
every device, since R288 and I14 leave the chain's state open then; `serial` numbers the request. -/
def chainAnswer (serial : Nat) (rc : RefChain) (req : ScanReq) : Response × RefChain :=
  let counted := { rc with scans := rc.scans + 1 }
  if (rc.scans + 1) ∈ rc.fails then (.transportError, counted)
  else if req.bits = [] then
    match rc.emptyScan with
    | .noop => (.ok [], counted)
    | .transportError => (.transportError, unknownChain serial counted)
  else
    let p := match req.kind with
      | .ir => chainScanIR rc.devices req.bits
      | .dr => chainScanDR rc.devices req.bits
    (.ok (if req.capture then p.2 else []), { counted with devices := p.1 })

/-- What the attached driver answers to the waiting request, the `serial`-th on the port; none: no answer (yet). -/
def driverAnswer (serial : Nat) (drv : Driver) (req : ScanReq) : Option (Response × Driver) :=
  match drv with
  | .external => none
  | .scripted [] => none
  | .scripted (r :: rs) => some (r, .scripted rs)
  | .recording log => some (.ok (if req.capture then zeros req.bits.length else []), .recording (log ++ [req]))
  | .chain rc =>
    let p := chainAnswer serial rc req
    some (p.1, .chain p.2)

/-- The move of the attached driver while a request waits (R95): it answers, or nothing happens. -/
def driverMove (req : ScanReq) (s : State) : State :=
  match driverAnswer s.issued s.driver req with
  | none => s
  | some (r, drv) => takeResponse r { s with driver := drv }

/-- Whether the attached driver carries out a scan whose response it does not give, because a reset abandons it or a response
arrives as an input. R321 calls that the driver's business. DESIGN CHOICE (logs 25 and 28): a free value says which; if it does, the
script, the log and the count of scans go on as if its response had been taken. -/
def abandonScan (req : ScanReq) (s : State) : Driver :=
  match driverAnswer s.issued s.driver req with
  | none => s.driver
  | some (_, drv) => if Config.abandonedScanCompletes s.issued then drv else s.driver

/-- The attached driver with its chain in a state nobody knows: free values (R321, I13, log 11; R288, I14, log 28). -/
def unknownDriver (seed : Nat) : Driver → Driver
  | .external => .external
  | .scripted rs => .scripted rs
  | .recording log => .recording log
  | .chain rc => .chain (unknownChain seed rc)

/-- What the attached driver holds after a request whose response was not its own: it may have carried the scan out or not, and
what its chain holds is unknown in either case (logs 11, 25 and 28). -/
def bypassedDriver (req : ScanReq) (s : State) : Driver := unknownDriver s.issued (abandonScan req s)

/-- R95, R321: the port as a response arrives on it as an input: the response to the last request is taken in WaitScan, and any other
is discarded (log 7). DESIGN CHOICE (log 28): R288 and I14 leave open what a failed scan leaves in the chain, and no rule says what a
scan answered past an attached chain does to it; so an attached driver is left as one that was bypassed, with free values. -/
def portResponse (serial : Nat) (r : Response) (s : State) : State :=
  if serial = s.issued then
    match s.phase with
    | .waitScan req => takeResponse r { s with driver := bypassedDriver req s }
    | .idle | .running _ | .waitAck => s
  else s

/-- R104, R108: a reference device with the default IR capture and the given data registers. DESIGN CHOICE (log 27): R104 gives no
initial value for `ir_d`, only for the data registers, so the IR the device starts with is the argument `ir`. -/
def refDevice (ir : Bits) (regs : List DataReg) : RefDevice :=
  { ir := ir, captureIr := some (append (zeros (ir.length - 2)) [false, true]), regs := regs }

/-- R110: a delayed-echo device, which captures its current IR; before the first IR scan that is all ones. -/
def echoDevice (len : Nat) (regs : List DataReg) : RefDevice :=
  { ir := ones len, captureIr := none, regs := regs }

/-- R104: a data register at its start: all zeros. -/
def plainReg (sel : Bits) (len : Nat) : DataReg :=
  { sel := sel, contents := zeros len, capture := none, captureOnly := false }

/-- R108: a capture-only register, such as an ID code. -/
def constReg (sel value : Bits) : DataReg :=
  { sel := sel, contents := value, capture := none, captureOnly := true }

/-- R93: the request signals. -/
structure PortRequest where
  reqValid : Bool
  reqKind : BitVec 1
  reqLen : Nat
  reqData : Nat
  reqIdle : Word
  reqCapture : Bool
  deriving DecidableEq, Repr

/-- R93: the request signals as the port shows them; nothing is requested outside WaitScan (R95). DESIGN CHOICE (log 22), since
R93 states no timing: `req_valid` stays up through all of WaitScan, and outside it every other request signal is 0. -/
def portSignals (s : State) : PortRequest :=
  match s.phase with
  | .waitScan req =>
    { reqValid := true, reqKind := (match req.kind with | .ir => 0 | .dr => 1), reqLen := req.bits.length,
      reqData := toValue req.bits, reqIdle := req.idle, reqCapture := req.capture }
  | .idle | .running _ | .waitAck =>
    { reqValid := false, reqKind := 0, reqLen := 0, reqData := 0, reqIdle := 0, reqCapture := false }

/-- R93: the response that `resp_ok`, `resp_len` and `resp_data` spell. DESIGN CHOICE (log 23), since R93 gives a packing for
`req_data` alone: `resp_data` is packed as R84 packs a sequence, and its bits at and above `resp_len` are ignored. -/
def responseOf (respOk : Bool) (respLen respData : Nat) : Response :=
  if respOk then .ok (bitsOf (respData % 2 ^ respLen) respLen) else .transportError

end Sys2Proof.Machine
end

