-- ==== Sys2Proof/Machine/HostPort.lean ====
section
/-! DEFINITION. The host's side: the register map (R33, R82), reads and writes (R35 to R53, R63, R81, R87) and the reset input
(R320, R321). -/

namespace Sys2Proof.Machine

/-- R33: what stands at an offset of the register space. -/
inductive HostReg where
  | cmd | status | txLen | idle | expect | chainN | rxLen | result
  | mmInstr | mmObserved | mmExpected
  | survIr | survStat | survDrlen | survAck
  | dvIdcode | dvIrlen | dvIrlenBefore | dvIrlenAfter | dvDevsBefore | dvDevsAfter
  | tx (k : Nat)
  | rx (k : Nat)
  | descIdcode (i : Nat)
  | descIrlen (i : Nat)
  | unmapped
  deriving DecidableEq, Repr

/-- R81: the accesses the interface admits. -/
def admitted (addr size : Nat) : Bool :=
  decide (size = 4) && decide (addr % 4 = 0) && decide (addr < 0x4000)

/-- R33: the registers below the windows. -/
def lowReg (addr : Nat) : HostReg :=
  match addr with
  | 0x000 => .cmd
  | 0x004 => .status
  | 0x008 => .txLen
  | 0x00C => .idle
  | 0x010 => .expect
  | 0x014 => .chainN
  | 0x018 => .rxLen
  | 0x01C => .result
  | 0x020 => .mmInstr
  | 0x024 => .mmObserved
  | 0x028 => .mmExpected
  | 0x02C => .survIr
  | 0x030 => .survStat
  | 0x034 => .survDrlen
  | 0x038 => .survAck
  | 0x040 => .dvIdcode
  | 0x044 => .dvIrlen
  | 0x048 => .dvIrlenBefore
  | 0x04C => .dvIrlenAfter
  | 0x050 => .dvDevsBefore
  | 0x054 => .dvDevsAfter
  | _ => .unmapped

/-- Each window of the register space is 0x1000 bytes long (R33, R84); the offset of an address in its window. -/
def windowOffset (addr : Nat) : Nat := addr % 0x1000

/-- R33, R82: the register at an admitted address; an offset R33 does not name is unmapped. -/
def regAt (p : Config.Params) (addr : Nat) : HostReg :=
  if addr < txBase then lowReg addr
  else if addr < rxBase then
    (if windowOffset addr / 4 < p.seqWords then .tx (windowOffset addr / 4) else .unmapped)
  else if addr < descBase then
    (if windowOffset addr / 4 < p.seqWords then .rx (windowOffset addr / 4) else .unmapped)
  else if windowOffset addr / 8 < p.maxDevices then
    (if windowOffset addr % 8 = 0 then .descIdcode (windowOffset addr / 8) else .descIrlen (windowOffset addr / 8))
  else .unmapped

/-- R33: what a register reads as; reserved bits and write-only registers read 0. -/
def regRead (s : State) : HostReg → Word
  | .cmd => s.cmd
  | .status => statusWord s
  | .txLen => s.txLen.setWidth 32
  | .idle => s.idle
  | .expect => s.expect
  | .chainN => s.chainN.setWidth 32
  | .rxLen => s.rxLen.setWidth 32
  | .result => s.result
  | .mmInstr => s.mmInstr
  | .mmObserved => s.mmObserved
  | .mmExpected => s.mmExpected
  | .survIr => s.survIr
  | .survStat => survStatWord s
  | .survDrlen => s.survDrlen
  | .survAck => 0
  | .dvIdcode => s.dvIdcode
  | .dvIrlen => s.dvIrlen.setWidth 32
  | .dvIrlenBefore => s.dvIrlenBefore.setWidth 32
  | .dvIrlenAfter => s.dvIrlenAfter.setWidth 32
  | .dvDevsBefore => s.dvDevsBefore.setWidth 32
  | .dvDevsAfter => s.dvDevsAfter.setWidth 32
  | .tx k => readWord s.mem (txBase + 4 * k)
  | .rx k => readWord s.mem (rxBase + 4 * k)
  | .descIdcode i => descIdcode s i
  | .descIrlen i => (descIrlen s i).setWidth 32
  | .unmapped => 0

/-- R63: a write dropped while BUSY = 1 sets OVERRUN; otherwise it takes effect. -/
def unlessBusy (s : State) (k : Result) : Result :=
  if s.busy then .next { s with overrun := true } else k

/-- R39, R51: CHAIN_N and the descriptor table are read-only while CONFIGURED = 1. -/
def unlessConfigured (s : State) (s' : State) : Result :=
  .next (if s.configured then s else s')

/-- A host write to one register (R35 to R39, R44, R49, R51, R63, R82). -/
def regWrite (s : State) (v : Word) : HostReg → Result
  | .cmd => unlessBusy s (.next (accept v s))
  | .txLen => unlessBusy s (.next { s with txLen := v.extractLsb' 0 16 })
  | .idle => unlessBusy s (.next { s with idle := v })
  | .expect => unlessBusy s (.next { s with expect := v })
  | .chainN => unlessBusy s (unlessConfigured s { s with chainN := v.extractLsb' 0 16 })
  | .survAck => if s.recValid then acknowledge v s else .next s
  | .tx k => unlessBusy s (.next { s with mem := writeWord s.mem (txBase + 4 * k) v })
  | .descIdcode i => unlessBusy s (unlessConfigured s { s with mem := writeWord s.mem (descBase + 8 * i) v })
  | .descIrlen i =>
    unlessBusy s (unlessConfigured s { s with mem := writeWord s.mem (descBase + 8 * i + 4) (v &&& 0xFFFF#32) })
  | .status | .rxLen | .result | .mmInstr | .mmObserved | .mmExpected | .survIr | .survStat | .survDrlen
  | .dvIdcode | .dvIrlen | .dvIrlenBefore | .dvIrlenAfter | .dvDevsBefore | .dvDevsAfter
  | .rx _ | .unmapped => .next s

/-- `MemWrite(addr, size, v)`: an access outside the interface has no step (R81). -/
def hostWrite (addr size : Nat) (v : Word) (s : State) : Result :=
  if admitted addr size then regWrite s v (regAt s.cfg addr) else .refused (.outsideInterface addr size)

/-- `MemRead(addr, size)`: no side effect on the block (R87); the value returned stands on the bus. -/
def hostRead (addr size : Nat) (s : State) : Result :=
  if admitted addr size then .next { s with readData := regRead s (regAt s.cfg addr) }
  else .refused (.outsideInterface addr size)

/-- R321: what a reset leaves of the attached driver. In WaitScan and in WaitAck the chain is left in an unknown state;
otherwise reset does not touch it (R322). Whether the driver completes the abandoned scan is free (log 25). -/
def driverAfterReset (s : State) : Driver :=
  match s.phase with
  | .waitScan req => bypassedDriver req s
  | .waitAck => unknownDriver s.issued s.driver
  | .idle | .running _ => s.driver

/-- R320: the reset input puts every piece of controller state at its reset value in one step. The inputs still to come, the
driver and the port's serial number are not the controller's. -/
def resetInput (s : State) : State :=
  { State.reset with
    cfg := s.cfg, inbox := s.inbox, driver := driverAfterReset s, issued := s.issued, readData := s.readData }

/-- The read that ends `poll` and `waitrec`: STATUS is on the bus (R132, log 18). -/
def statusRead (s : State) : State := { s with readData := statusWord s }

/-- R132: `poll` ends when BUSY reads 0. -/
def pollDone (s : State) : Bool := !s.busy

/-- R132: `waitrec` ends when REC_VALID reads 1 or BUSY reads 0. -/
def waitRecDone (s : State) : Bool := s.recValid || !s.busy

end Sys2Proof.Machine
end

