-- ==== Sys2Proof/Machine/Control.lean ====
section
/-! DEFINITION. One move of the controller, or of the driver it waits for. -/

namespace Sys2Proof.Machine

/-- Run an accepted word: an undecodable one raises IllegalCommand (R129, R284), a command runs its next stretch. -/
def runWord (w : Word) (s : State) : Result :=
  match decode w with
  | .illegal why => .next (raise (illegalDetail why) s)
  | .command i => exec i s

/-- One move of the controller: idle it takes no step (R298); running it executes the accepted word (R89); in WaitScan only
the driver can move (R95), in WaitAck only the host (R262). -/
def controllerStep (s : State) : Result :=
  match s.phase with
  | .idle => .next s
  | .running w => runWord w s
  | .waitScan req => .next (driverMove req s)
  | .waitAck => .next s

end Sys2Proof.Machine
end

