-- ==== Sys2Proof/Machine/Step.lean ====
section
/-! DEFINITION. One step: the next input, or a move of the controller where none waits (log 1). -/

namespace Sys2Proof.Machine

/-- One step of the machine. -/
def step (s : State) : Host.Outcome State Fault Refusal :=
  match s.inbox with
  | [] => controllerStep s
  | .tick :: rest => controllerStep { s with inbox := rest }
  | .write addr size v :: rest => hostWrite addr size v { s with inbox := rest }
  | .read addr size :: rest => hostRead addr size { s with inbox := rest }
  | .reset :: rest => .next (resetInput { s with inbox := rest })
  | .respond serial r :: rest => .next (portResponse serial r { s with inbox := rest })
  | .poll :: rest => if pollDone s then .next (statusRead { s with inbox := rest }) else controllerStep s
  | .waitRec :: rest => if waitRecDone s then .next (statusRead { s with inbox := rest }) else controllerStep s

/-- The state in which the very next step runs the command word `w`: it has been accepted (R60), as the host's write to CMD
would have it, and no input comes before the controller's move (log 15). -/
def State.withFetchWord (s : State) (nbits w : Nat) : State :=
  accept (BitVec.ofNat 32 (w % 2 ^ nbits)) { s with inbox := [] }

end Sys2Proof.Machine
end

