-- ==== Sys2Proof/Machine/HostProgram.lean ====
section
/-! DEFINITION. The host assembly of R131 and the pseudo-instructions of R132, as the inputs they expand into. -/

namespace Sys2Proof.Machine

/-- R131, R132: the statements of a host program. -/
inductive Stmt where
  /-- `wr OFF, V`. -/
  | wr (off : Nat) (v : Word)
  /-- `rd OFF`. -/
  | rd (off : Nat)
  /-- `MNEMONIC d`. -/
  | command (i : Instr)
  | poll
  | waitrec
  | ack
  | stop
  /-- `tx V, n`. -/
  | tx (v n : Nat)
  /-- `desc i, ID, L`. -/
  | desc (i : Nat) (id : Word) (len : Nat)
  /-- `chain (ID0, L0), …`. -/
  | chain (devices : List (Word × Nat))
  /-- `do MNEMONIC d`. -/
  | perform (i : Instr)
  deriving DecidableEq, Repr

/-- One host write of a word. -/
def wordWrite (off : Nat) (v : Word) : Input := .write off 4 v

/-- R131: issuing a command is a write of its word to CMD. -/
def commandWrite (i : Instr) : Input := wordWrite 0x000 (encode i)

/-- R132: `tx V, n` writes the words `(V >> 32k) mod 2^32` for `k < ceil(n/32)`, then TX_LEN. -/
def txWrites (v n : Nat) : List Input :=
  (List.range ((n + 31) / 32)).map (fun k => wordWrite (txBase + 4 * k) (BitVec.ofNat 32 (v / 2 ^ (32 * k))))
    ++ [wordWrite 0x008 (BitVec.ofNat 32 n)]

/-- R132: `desc i, ID, L`. -/
def descWrites (i : Nat) (id : Word) (len : Nat) : List Input :=
  [wordWrite (descBase + 8 * i) id, wordWrite (descBase + 8 * i + 4) (BitVec.ofNat 32 len)]

/-- R132: `desc` for each device from index `i` on. -/
def chainWrites : Nat → List (Word × Nat) → List Input
  | _, [] => []
  | i, (id, len) :: ds => descWrites i id len ++ chainWrites (i + 1) ds

/-- R131, R132: a statement's bus transactions. -/
def Stmt.expand : Stmt → List Input
  | .wr off v => [wordWrite off v]
  | .rd off => [.read off 4]
  | .command i => [commandWrite i]
  | .poll => [.poll]
  | .waitrec => [.waitRec]
  | .ack => [wordWrite 0x038 1]
  | .stop => [wordWrite 0x038 2]
  | .tx v n => txWrites v n
  | .desc i id len => descWrites i id len
  | .chain ds => chainWrites 0 ds ++ [wordWrite 0x014 (BitVec.ofNat 32 ds.length), commandWrite (.loadChain 0), .poll]
  | .perform i => [commandWrite i, .poll]

/-- A program's bus transactions, in order. -/
def programInputs (p : List Stmt) : List Input := p.flatMap Stmt.expand

end Sys2Proof.Machine
end

