-- ==== Sys2Proof/Safety.lean ====
section
/-! DEFINITION. What a legal state is: the invariant a run from reset keeps, and the tables its clauses read (R286's columns,
and the scan each command has outstanding at each position). Claims are stated in these terms. -/

namespace Sys2Proof.Machine

/-! ### R286, by its columns -/

/-- Column 4: every command but LOAD_CHAIN and CLEAR_CHAIN needs a loaded chain. -/
def needsChain : Instr → Bool
  | .loadChain _ | .clearChain _ => false
  | .deviceCount _ | .totalIrLength _ | .totalDrLength _ | .deviceView _ | .writeIr _ | .readWriteIr _
  | .verifyIrCapture _ | .writeDr _ | .readWriteDr _ | .currentDrLength _ | .verifyDrLength _ | .checkDr _
  | .survey _ => true

/-- Column 5: the device commands (R122's class). -/
def isDeviceCommand : Instr → Bool
  | .loadChain _ | .clearChain _ | .deviceCount _ | .totalIrLength _ | .totalDrLength _ => false
  | .deviceView _ | .writeIr _ | .readWriteIr _ | .verifyIrCapture _ | .writeDr _ | .readWriteDr _
  | .currentDrLength _ | .verifyDrLength _ | .checkDr _ | .survey _ => true

/-- Column 6: the commands that read TX. -/
def readsTx : Instr → Bool
  | .writeIr _ | .readWriteIr _ | .writeDr _ | .readWriteDr _ | .verifyDrLength _ | .checkDr _ => true
  | .loadChain _ | .clearChain _ | .deviceCount _ | .totalIrLength _ | .totalDrLength _ | .deviceView _
  | .verifyIrCapture _ | .currentDrLength _ | .survey _ => false

/-- Columns 3 and 7: the checks a command has of its own, in the order its rule lists them. -/
def ownChecks (i : Instr) (s : State) : List (Bool × Detail) :=
  match i with
  | .loadChain _ => [(s.configured, .alreadyConfigured), (decide (s.cfg.maxDevices < devCount s), .chainN),
      (badDescriptor s (devCount s), .descIrlen)]
  | .writeIr d | .readWriteIr d | .verifyDrLength d => [checkIrWidth s d]
  | .verifyIrCapture d => [checkIrlenTwo s d]
  | .checkDr d => [checkIrWidth s d, checkExpect s]
  | .clearChain _ | .deviceCount _ | .totalIrLength _ | .totalDrLength _ | .deviceView _ | .writeDr _
  | .readWriteDr _ | .currentDrLength _ | .survey _ => []

/-- R286, steps 3 to 7, for a decoded command. -/
def staticChecks (i : Instr) (s : State) : List (Bool × Detail) :=
  (if needsChain i then [checkConfigured s] else []) ++
  (if isDeviceCommand i then [checkDev s i.dev] else []) ++
  (if readsTx i then [checkTxLen s] else []) ++
  ownChecks i s

/-- Column 8: the scan a command has outstanding at a position of its pseudocode; none where it has no such position. -/
def scanAt (i : Instr) (s : State) (p : Pos) : Option ScanReq :=
  match i, p with
  | .totalDrLength _, .probe => some (probeReq s)
  | .writeIr d, .ir => some (scanIR (padIR s d (txArg s)) false)
  | .readWriteIr d, .ir => some (scanIR (padIR s d (txArg s)) true)
  | .verifyIrCapture d, .ir => some (scanIR (padIR s d (ones (irlen s d))) true)
  | .writeDr d, .dr => some (scanDR (padDR s d (txArg s)) s.idle false)
  | .readWriteDr d, .dr => some (scanDR (padDR s d (txArg s)) s.idle true)
  | .currentDrLength _, .probe => some (probeReq s)
  | .verifyDrLength d, .ir => some (scanIR (padIR s d (txArg s)) false)
  | .verifyDrLength _, .probe => some (probeReq s)
  | .checkDr d, .ir => some (scanIR (padIR s d (txArg s)) false)
  | .checkDr _, .probe => some (probeReq s)
  | .checkDr d, .dr => some (scanDR (padDR s d (zeros s.expect.toNat)) 0 true)
  | .survey d, .ir => some (scanIR (padIR s d (bitsOf s.survNext (irlen s d))) false)
  | .survey _, .probe => some (probeReq s)
  | _, _ => none

/-- A reply that can follow a request: a capture is as long as its scan (R94). -/
def replyFits (req : ScanReq) : Reply → Bool
  | .ok o => decide (o.length = if req.capture then req.bits.length else 0)
  | .failed e => decide (e = .driverFailure) || (req.capture && decide (e = .captureLength))

/-- R260: while a survey runs, its cursor names the device and a value below `2^irlen`, one record per value so far. -/
def surveyOk (i : Instr) (s : State) : Prop :=
  match i with
  | .survey d => s.survDev = d ∧ s.survNext < 2 ^ irlen s d ∧ s.survCount = s.survNext
  | _ => True

/-- A command past its checks: CMD holds it, and each of its static checks passes (R286). -/
def InCommand (i : Instr) (s : State) : Prop :=
  decode s.cmd = .command i ∧ firstError (staticChecks i s) = none ∧ surveyOk i s

/-- The phase, the position and the outstanding scan belong together (R31, R62, R95, R262). -/
def PhaseOk (s : State) : Prop :=
  match s.phase with
  | .idle => s.pos = .start
  | .running w =>
    w = s.cmd ∧
      (s.pos = .start ∨
        ∃ i req, InCommand i s ∧ scanAt i s s.pos = some req ∧ replyFits req s.reply = true)
  | .waitScan req => ∃ i, InCommand i s ∧ scanAt i s s.pos = some req
  | .waitAck => s.pos = .record ∧ ∃ d, InCommand (.survey d) s

/-- R52, R180: a loaded chain fits the table, and each of its IR lengths is 1 to MAX_IRLEN. -/
def ChainOk (s : State) : Prop :=
  s.configured = true → devCount s ≤ s.cfg.maxDevices ∧ badDescriptor s (devCount s) = false

/-- R61, R62: while a command runs, every result register but SURV_* and REC_VALID still holds its cleared value. -/
def ResultsClear (s : State) : Prop :=
  s.busy = true →
    s.detail = .none ∧ s.boolFlag = false ∧ s.rxLen = 0 ∧ s.result = 0 ∧
    s.mmInstr = 0 ∧ s.mmObserved = 0 ∧ s.mmExpected = 0 ∧
    s.dvIdcode = 0 ∧ s.dvIrlen = 0 ∧ s.dvIrlenBefore = 0 ∧ s.dvIrlenAfter = 0 ∧ s.dvDevsBefore = 0 ∧ s.dvDevsAfter = 0

/-- R85: the RX buffer holds nothing at or above RX_LEN.LEN. -/
def RxOk (s : State) : Prop := rxVal s < 2 ^ s.rxLen.toNat

/-- R33, R82: a cell lies in a window of the register space, in a word that exists. -/
def mapped (p : Config.Params) (a : Nat) : Bool :=
  (decide (txBase ≤ a) && decide (a < txBase + 4 * p.seqWords)) ||
  (decide (rxBase ≤ a) && decide (a < rxBase + 4 * p.seqWords)) ||
  (decide (descBase ≤ a) && decide (a < descBase + 8 * p.maxDevices))

/-- The memory holds its canonical form and lists nothing outside the windows. -/
def MemOk (s : State) : Prop :=
  Memory.wf s.mem = true ∧ ∀ c ∈ s.mem, mapped s.cfg c.1 = true

/-- The invariant of a run from reset. -/
structure Inv (s : State) : Prop where
  params : s.cfg.wf = true
  memory : MemOk s
  chain : ChainOk s
  phase : PhaseOk s
  cleared : ResultsClear s
  rx : RxOk s

/-! ### What the next input is about -/

/-- Whether the next input is a host access outside the interface (R81). -/
def nextRefused (s : State) : Bool :=
  match s.inbox with
  | .write addr size _ :: _ => !admitted addr size
  | .read addr size :: _ => !admitted addr size
  | _ => false

/-- Whether the controller (or its driver) moves next: no input waits, or the next one is a tick. -/
def controllerMoves (s : State) : Bool :=
  match s.inbox with
  | [] | .tick :: _ => true
  | _ => false

/-- The state with its next input taken. -/
def popped (s : State) : State := { s with inbox := s.inbox.tail }

/-! ### The host's registers by what a write to them does (R63, R82) -/

/-- A register whose write is dropped, with OVERRUN set, while BUSY = 1: CMD, the argument registers, a TX word, a
descriptor word (R63). -/
def droppedWhenBusy : HostReg → Bool
  | .cmd | .txLen | .idle | .expect | .chainN | .tx _ | .descIdcode _ | .descIrlen _ => true
  | .status | .rxLen | .result | .mmInstr | .mmObserved | .mmExpected | .survIr | .survStat | .survDrlen | .survAck
  | .dvIdcode | .dvIrlen | .dvIrlenBefore | .dvIrlenAfter | .dvDevsBefore | .dvDevsAfter | .rx _ | .unmapped => false

/-- A register a host write never changes: the RO registers and the unmapped offsets (R82). -/
def ignoresWrites : HostReg → Bool
  | .status | .rxLen | .result | .mmInstr | .mmObserved | .mmExpected | .survIr | .survStat | .survDrlen
  | .dvIdcode | .dvIrlen | .dvIrlenBefore | .dvIrlenAfter | .dvDevsBefore | .dvDevsAfter | .rx _ | .unmapped => true
  | .cmd | .txLen | .idle | .expect | .chainN | .survAck | .tx _ | .descIdcode _ | .descIrlen _ => false

/-- The bytes of the RX buffer's window. -/
def inRx (s : State) (a : Nat) : Prop := rxBase ≤ a ∧ a < rxBase + 4 * s.cfg.seqWords

/-! ### A survey's inputs (R265) -/

/-- The inputs that carry a full survey through, every record acknowledged with NEXT: for each value the response to its IR
scan, a move of the controller, then, unless that scan failed, the response to its probe and another move, then the
acknowledgement. `n` is how many requests the port has seen before the value's IR scan is answered. -/
def surveyInputs : Nat → List (Option Response) → List Input
  | _, [] => []
  | n, none :: rest => .respond n .transportError :: .tick :: .write 0x038 4 1 :: surveyInputs (n + 1) rest
  | n, some r :: rest =>
    .respond n (.ok []) :: .tick :: .respond (n + 1) r :: .tick :: .write 0x038 4 1 :: surveyInputs (n + 2) rest

end Sys2Proof.Machine
end

