-- ==== Sys2Proof/Certificates/Slice0/Obligations.lean ====
section
/-! DEFINITION. The statements for the provers. A next state is written as an update of the state before, so that every field
the update does not name is unchanged: that is the statement's frame. -/

open Sys2Proof Sys2Proof.Machine

/-! ### Encoding -/

/-- R120, R129, R131: every command's word decodes to the command, its device index at any value the field admits. -/
def Obligations.DecodeInvertsEncode : Prop :=
  ∀ i : Instr, i.wf = true → decode (encode i) = .command i

/-- R120, R129: a word that decodes to a command is that command's word, so no bit of a legal word is dropped. -/
def Obligations.EncodeInvertsDecode : Prop :=
  ∀ (w : Word) (i : Instr), decode w = .command i → i.wf = true ∧ encode i = w

/-- R129: decoding is total, and goes by the opcode table: mask 0xFFFF00FF, match the OP value; a word that matches no row is
illegal, for its opcode if that is reserved and otherwise for its reserved fields. -/
def Obligations.DecodeFollowsTheOpcodeTable : Prop :=
  ∀ w : Word,
    let opcodes := [1, 2, 3, 4, 5, 6, 8, 9, 10, 16, 17, 18, 19, 20, 24]
    ((∃ i, decode w = .command i) ↔ ∃ op ∈ opcodes, w &&& 0xFFFF00FF#32 = BitVec.ofNat 32 op) ∧
    (decode w = .illegal .opcode ↔ w.toNat % 32 ∉ opcodes) ∧
    (decode w = .illegal .reservedField ↔
      w.toNat % 32 ∈ opcodes ∧ (w.toNat / 32 % 8 ≠ 0 ∨ w.toNat / 65536 ≠ 0)) ∧
    (∀ i, decode w = .command i → opcodeOf i = w.toNat % 32 ∧ i.dev = w.toNat / 256 % 256)

/-- 95_test_vectors.md E1 to E9: the words written out there decode as listed. -/
def Obligations.SpecWordsDecode : Prop :=
  decode 0x00000108#32 = .command (.writeIr 1) ∧
  decode 0x0000FF01#32 = .command (.loadChain 255) ∧
  decode 0x00000007#32 = .illegal .opcode ∧
  decode 0x00000020#32 = .illegal .opcode ∧
  decode 0x00000028#32 = .illegal .reservedField ∧
  decode 0x00010003#32 = .illegal .reservedField ∧
  decode 0x00010007#32 = .illegal .opcode ∧
  decode 0x0000001F#32 = .illegal .opcode ∧
  decode 0x00000518#32 = .command (.survey 5)

/-- R125: the chain commands do the same whatever DEV is. -/
def Obligations.ChainCommandsIgnoreDev : Prop :=
  ∀ (d e : Nat) (s : State),
    exec (.loadChain d) s = exec (.loadChain e) s ∧ exec (.clearChain d) s = exec (.clearChain e) s ∧
    exec (.deviceCount d) s = exec (.deviceCount e) s ∧ exec (.totalIrLength d) s = exec (.totalIrLength e) s ∧
    exec (.totalDrLength d) s = exec (.totalDrLength e) s

/-! ### The step -/

/-- A step runs the decoded command: where the controller moves next and runs a word that decodes to `i`, the step is `exec i`
with the input (a tick, if any) taken. -/
def Obligations.StepRunsDecodedCommand : Prop :=
  ∀ (s : State) (w : Word) (i : Instr), s.phase = .running w → decode w = .command i → controllerMoves s = true →
    step s = exec i (popped s)

/-- Log 1: the step takes the next input, in order, and it is the host's access, the reset, or the driver's response. -/
def Obligations.StepTakesTheNextInput : Prop :=
  ∀ (s : State) (rest : List Input),
    (∀ a n v, step { s with inbox := .write a n v :: rest } = hostWrite a n v { s with inbox := rest }) ∧
    (∀ a n, step { s with inbox := .read a n :: rest } = hostRead a n { s with inbox := rest }) ∧
    step { s with inbox := .reset :: rest } = .next (resetInput { s with inbox := rest }) ∧
    (∀ k r, step { s with inbox := .respond k r :: rest } = .next (portResponse k r { s with inbox := rest }))

/-- R123, R124: a reserved OP raises IllegalCommand(OPCODE); a defined OP with a non-zero reserved field raises
IllegalCommand(RESERVED_FIELD). No scan is issued and nothing but STATUS changes. -/
def Obligations.IllegalWordsRaise : Prop :=
  ∀ (s : State) (w : Word), s.phase = .running w → controllerMoves s = true →
    (w.toNat % 32 ∈ [0, 7, 11, 12, 13, 14, 15, 21, 22, 23, 25, 26, 27, 28, 29, 30, 31] →
      step s = .next { popped s with phase := .idle, pos := .start, reply := .ok [], detail := .opcode }) ∧
    (w.toNat % 32 ∈ [1, 2, 3, 4, 5, 6, 8, 9, 10, 16, 17, 18, 19, 20, 24] →
      (w.toNat / 32 % 8 ≠ 0 ∨ w.toNat / 65536 ≠ 0) →
      step s = .next { popped s with phase := .idle, pos := .start, reply := .ok [], detail := .reservedField })

/-! ### The host interface and the command lifecycle -/

/-- R33, R80, R87: the register map. Below 0x1000 the offsets of the table hold their registers and no other offset holds one; the
TX, RX and descriptor windows hold their words at 0x1000 + 4k, 0x2000 + 4k, 0x3000 + 8i and 0x3004 + 8i. In every state, BUSY or
not, a read of each puts the named field on the bus, reserved bits and SURV_ACK reading 0, and changes nothing else. -/
def Obligations.RegisterMapFollowsTheTable : Prop :=
  ∀ (p : Config.Params), p.wf = true →
    (∀ addr < 0x1000, regAt p addr =
      (([(0x000, HostReg.cmd), (0x004, .status), (0x008, .txLen), (0x00C, .idle), (0x010, .expect), (0x014, .chainN),
        (0x018, .rxLen), (0x01C, .result), (0x020, .mmInstr), (0x024, .mmObserved), (0x028, .mmExpected),
        (0x02C, .survIr), (0x030, .survStat), (0x034, .survDrlen), (0x038, .survAck), (0x040, .dvIdcode),
        (0x044, .dvIrlen), (0x048, .dvIrlenBefore), (0x04C, .dvIrlenAfter), (0x050, .dvDevsBefore),
        (0x054, .dvDevsAfter)].lookup addr).getD .unmapped)) ∧
    (∀ k < p.maxSeqBits / 32, regAt p (0x1000 + 4 * k) = .tx k ∧ regAt p (0x2000 + 4 * k) = .rx k) ∧
    (∀ i < p.maxDevices, regAt p (0x3000 + 8 * i) = .descIdcode i ∧ regAt p (0x3004 + 8 * i) = .descIrlen i) ∧
    ∀ s : State, s.cfg = p →
      (∀ av ∈ [(0x000, s.cmd), (0x004, statusWord s), (0x008, s.txLen.setWidth 32), (0x00C, s.idle), (0x010, s.expect),
        (0x014, s.chainN.setWidth 32), (0x018, s.rxLen.setWidth 32), (0x01C, s.result), (0x020, s.mmInstr),
        (0x024, s.mmObserved), (0x028, s.mmExpected), (0x02C, s.survIr),
        (0x030, 0#8 ++ detailCode s.survStat ++ 0#5 ++ errCode (errClass s.survStat) ++ 0#8), (0x034, s.survDrlen),
        (0x038, 0), (0x040, s.dvIdcode), (0x044, s.dvIrlen.setWidth 32), (0x048, s.dvIrlenBefore.setWidth 32),
        (0x04C, s.dvIrlenAfter.setWidth 32), (0x050, s.dvDevsBefore.setWidth 32), (0x054, s.dvDevsAfter.setWidth 32)],
        hostRead av.1 4 s = .next { s with readData := av.2 }) ∧
      (∀ k < p.maxSeqBits / 32,
        hostRead (0x1000 + 4 * k) 4 s = .next { s with readData := readWord s.mem (0x1000 + 4 * k) } ∧
        hostRead (0x2000 + 4 * k) 4 s = .next { s with readData := readWord s.mem (0x2000 + 4 * k) }) ∧
      ∀ i < p.maxDevices,
        hostRead (0x3000 + 8 * i) 4 s = .next { s with readData := readWord s.mem (0x3000 + 8 * i) } ∧
        hostRead (0x3004 + 8 * i) 4 s =
          .next { s with readData := ((readWord s.mem (0x3004 + 8 * i)).extractLsb' 0 16).setWidth 32 }

/-- R60, R61: a CMD write while BUSY = 0 accepts the word, clears every result, and changes nothing else. -/
def Obligations.CmdWriteAccepts : Prop :=
  ∀ (s : State) (v : Word), s.busy = false → ∃ m,
    hostWrite 0x000 4 v s = .next { s with
      cmd := v, phase := .running v, pos := .start, reply := .ok [],
      detail := .none, boolFlag := false, overrun := false, rxLen := 0, result := 0,
      mmInstr := 0, mmObserved := 0, mmExpected := 0, survIr := 0, survStat := .none, survDrlen := 0,
      dvIdcode := 0, dvIrlen := 0, dvIrlenBefore := 0, dvIrlenAfter := 0, dvDevsBefore := 0, dvDevsAfter := 0,
      mem := m } ∧
    (∀ a, inRx s a → readByte m a = 0) ∧ (∀ a, ¬ inRx s a → readByte m a = readByte s.mem a)

/-- R63: while BUSY = 1 a write to CMD, an argument register, a TX word or a descriptor word is ignored and sets OVERRUN; a
write to a read-only register or an unmapped offset is ignored and does not; SURV_ACK takes effect while a record is out (R44)
and is ignored otherwise; and every register may be read. -/
def Obligations.WritesWhileBusyAreDropped : Prop :=
  ∀ (s : State) (addr : Nat) (v : Word), s.busy = true → admitted addr 4 = true →
    (droppedWhenBusy (regAt s.cfg addr) = true → hostWrite addr 4 v s = .next { s with overrun := true }) ∧
    (ignoresWrites (regAt s.cfg addr) = true → hostWrite addr 4 v s = .next s) ∧
    (addr = 0x038 → hostWrite addr 4 v s = if s.recValid then acknowledge v s else .next s) ∧
    hostRead addr 4 s = .next { s with readData := regRead s (regAt s.cfg addr) }

/-- R36, R37, R38, R49: an argument register written while BUSY = 0 holds what was written (TX_LEN its low 16 bits), and a TX
word reads back as written; nothing else changes. -/
def Obligations.ArgumentWritesStore : Prop :=
  ∀ (s : State) (v : Word), s.busy = false →
    hostWrite 0x008 4 v s = .next { s with txLen := v.extractLsb' 0 16 } ∧
    hostWrite 0x00C 4 v s = .next { s with idle := v } ∧
    hostWrite 0x010 4 v s = .next { s with expect := v } ∧
    (s.cfg.wf = true → Memory.wf s.mem = true → ∀ k < s.cfg.seqWords, ∃ m,
      hostWrite (0x1000 + 4 * k) 4 v s = .next { s with mem := m } ∧
      regRead { s with mem := m } (regAt s.cfg (0x1000 + 4 * k)) = v ∧
      ∀ a, (a < 0x1000 + 4 * k ∨ 0x1000 + 4 * k + 4 ≤ a) → readByte m a = readByte s.mem a)

/-- R39, R51: with no chain loaded and BUSY = 0, CHAIN_N and the descriptor words hold what was written, their reserved bits
reading 0. -/
def Obligations.DescriptorWritesStore : Prop :=
  ∀ (s : State) (v : Word), s.busy = false → s.configured = false →
    hostWrite 0x014 4 v s = .next { s with chainN := v.extractLsb' 0 16 } ∧
    (s.cfg.wf = true → Memory.wf s.mem = true → ∀ i < s.cfg.maxDevices,
      (∃ m, hostWrite (0x3000 + 8 * i) 4 v s = .next { s with mem := m } ∧
        regRead { s with mem := m } (regAt s.cfg (0x3000 + 8 * i)) = v ∧ descIdcode { s with mem := m } i = v ∧
        ∀ a, (a < 0x3000 + 8 * i ∨ 0x3000 + 8 * i + 4 ≤ a) → readByte m a = readByte s.mem a) ∧
      (∃ m, hostWrite (0x3004 + 8 * i) 4 v s = .next { s with mem := m } ∧
        regRead { s with mem := m } (regAt s.cfg (0x3004 + 8 * i)) = v &&& 0xFFFF#32 ∧
        irlen { s with mem := m } i = v.toNat % 65536 ∧
        ∀ a, (a < 0x3004 + 8 * i ∨ 0x3004 + 8 * i + 4 ≤ a) → readByte m a = readByte s.mem a))

/-- R39, R51: while CONFIGURED = 1 a write to CHAIN_N or to the descriptor table is ignored, without OVERRUN when BUSY = 0. -/
def Obligations.LoadedChainIsReadOnly : Prop :=
  ∀ (s : State) (v : Word) (addr : Nat), s.configured = true → s.busy = false → admitted addr 4 = true →
    (addr = 0x014 ∨ 0x3000 ≤ addr) → hostWrite addr 4 v s = .next s

/-- R81: an access that is not a 32-bit aligned one below 0x4000 is refused; every other has a step, and a read's puts the
register on the bus and changes nothing else, in every state (RegisterMapFollowsTheTable says which field that is). -/
def Obligations.OnlyAdmittedAccessesHaveAStep : Prop :=
  ∀ (s : State) (addr size : Nat) (v : Word),
    (¬ (size = 4 ∧ addr % 4 = 0 ∧ addr < 0x4000) →
      hostWrite addr size v s = .refused (.outsideInterface addr size) ∧
      hostRead addr size s = .refused (.outsideInterface addr size)) ∧
    (size = 4 ∧ addr % 4 = 0 ∧ addr < 0x4000 →
      (∃ t, hostWrite addr size v s = .next t) ∧
      hostRead addr size s = .next { s with readData := regRead s (regAt s.cfg addr) })

/-- R82: a write to an offset the map does not name, or to a read-only register, is ignored; a read of an unnamed offset or of
SURV_ACK gives 0; none sets OVERRUN. The unnamed offsets take in the TX, RX and descriptor words past the parameters. -/
def Obligations.UnmappedOffsetsReadZeroAndIgnoreWrites : Prop :=
  ∀ (s : State) (addr : Nat) (v : Word), admitted addr 4 = true →
    (ignoresWrites (regAt s.cfg addr) = true → hostWrite addr 4 v s = .next s) ∧
    (regAt s.cfg addr = .unmapped ∨ regAt s.cfg addr = .survAck → hostRead addr 4 s = .next { s with readData := 0 }) ∧
    (∀ k, s.cfg.seqWords ≤ k → addr = 0x1000 + 4 * k ∧ addr < 0x2000 ∨ addr = 0x2000 + 4 * k ∧ addr < 0x3000 →
      regAt s.cfg addr = .unmapped) ∧
    (∀ i, s.cfg.maxDevices ≤ i → addr = 0x3000 + 8 * i ∨ addr = 0x3004 + 8 * i → regAt s.cfg addr = .unmapped)

/-- R65, R320, R33: after the reset input every register of the register space reads 0, the phase is Idle, no chain is loaded,
and no scan is issued; and so it is in the reset state. -/
def Obligations.ResetZeroesEveryRegister : Prop :=
  ∀ (s : State) (addr : Nat), admitted addr 4 = true →
    regRead (resetInput s) (regAt s.cfg addr) = 0 ∧ (resetInput s).phase = .idle ∧
    (resetInput s).configured = false ∧ (resetInput s).issued = s.issued ∧ (resetInput s).mem = [] ∧
    regRead State.reset (regAt State.reset.cfg addr) = 0 ∧ State.reset.phase = .idle

/-- R321: a response to a request that a reset abandoned is discarded: the two inputs leave exactly what the reset left, and so
it is after any later request of another command. A response names its request by log 7's serial number. -/
def Obligations.LateResponsesAreDiscarded : Prop :=
  ∀ (s : State) (r : Response) (rest : List Input),
    s.inbox = .reset :: .respond s.issued r :: rest →
    Host.Core.run Sys2Proof.core 2 s = .next { resetInput s with inbox := rest } ∧
    ∀ u : State, s.issued < u.issued → portResponse s.issued r u = u

/-- R34: the fields of STATUS, and its reserved bits. -/
def Obligations.StatusWordFields : Prop :=
  ∀ s : State,
    (statusWord s).getLsbD 0 = s.busy ∧ (statusWord s).getLsbD 1 = s.configured ∧
    (statusWord s).getLsbD 2 = s.recValid ∧ (statusWord s).getLsbD 3 = s.boolFlag ∧
    (statusWord s).getLsbD 4 = s.overrun ∧ (statusWord s).extractLsb' 5 3 = 0 ∧
    (statusWord s).extractLsb' 8 3 = errCode (errClass s.detail) ∧ (statusWord s).extractLsb' 11 5 = 0 ∧
    (statusWord s).extractLsb' 16 8 = detailCode s.detail ∧ (statusWord s).extractLsb' 24 8 = 0 ∧
    (s.busy = true ↔ s.phase ≠ .idle) ∧ (s.recValid = true ↔ s.phase = .waitAck)

/-- R127, R128: the class and detail codes as the tables list them. -/
def Obligations.ErrorCodesAreTheTables : Prop :=
  [Detail.none, .driverFailure, .captureLength, .probeNoEdge, .probeInconsistent, .devIndex, .txLen, .irWidth,
    .irlenTooShort, .expectCapacity, .chainN, .descIrlen, .drLength, .opcode, .reservedField, .alreadyConfigured,
    .notConfigured].map (fun e => ((detailCode e).toNat, (errCode (errClass e)).toNat)) =
  [(0x00, 0), (0x01, 1), (0x02, 1), (0x03, 1), (0x04, 1), (0x10, 2), (0x11, 2), (0x12, 2), (0x13, 2), (0x14, 2),
    (0x15, 2), (0x16, 2), (0x20, 3), (0x30, 4), (0x31, 4), (0x32, 4), (0x40, 5)]

/-! ### Bit sequences -/

/-- R162: the laws of ones, zeros, append, dropTail and dropHead. -/
def Obligations.PrimitiveLaws : Prop :=
  (∀ n, (ones n).length = n ∧ (∀ b ∈ ones n, b = true) ∧ (zeros n).length = n ∧ ∀ b ∈ zeros n, b = false) ∧
  ∀ a b : Bits, (append a b).length = a.length + b.length ∧
    dropTail (append a b) b.length = some a ∧ dropHead (append a b) a.length = some b

/-- R152, R153: fromValue fails exactly when the value does not fit, and with toValue it is an inverse pair. -/
def Obligations.FromValueAndToValueAreInverse : Prop :=
  (∀ x n, 2 ^ n ≤ x → fromValue x n = none) ∧
  (∀ x n, x < 2 ^ n → ∃ s, fromValue x n = some s ∧ s.length = n ∧ toValue s = x) ∧
  ∀ s : Bits, fromValue (toValue s) s.length = some s

/-- R159: split fails exactly on a length mismatch; otherwise each value is its piece of the sequence read as an integer, and
putting the pieces together again gives the sequence. -/
def Obligations.SplitRejoins : Prop :=
  ∀ (s : Bits) (ls : List Nat),
    (ls.sum ≠ s.length → split s ls = none) ∧
    (ls.sum = s.length → ∃ vs, split s ls = some vs ∧ vs.length = ls.length ∧
      (∀ j l, ls[j]? = some l → vs[j]? = some (toValue ((s.drop (ls.take j).sum).take l))) ∧
      (List.zipWith bitsOf vs ls).flatten = s)

/-- R86: the operand TX(n) has length n and value TXVAL mod 2^n; its tail is TX buffer bit 0 and its head bit n-1. R49, R84: buffer
bit p is bit p mod 32 of the word p div 32, which stands at 0x1000 + 4 (p div 32), and no bit lies above the buffer's words. -/
def Obligations.TxOperandIsTheBufferValue : Prop :=
  ∀ (s : State) (n : Nat), (txOperand s n).length = n ∧ toValue (txOperand s n) = txVal s % 2 ^ n ∧
    (∀ p < n, (txOperand s n)[n - 1 - p]? = some ((txVal s).testBit p)) ∧
    ∀ p, (txVal s).testBit p =
      (decide (p < 32 * s.cfg.seqWords) && (readWord s.mem (0x1000 + 4 * (p / 32))).getLsbD (p % 32))

/-! ### The chain -/

/-- R183, R182: a device's IR length is DESC_IRLEN[d][15:0], the padding counts are the sums over the devices before and after,
and totalIR is the sum over all. -/
def Obligations.PaddingCountsAreTheSums : Prop :=
  ∀ (s : State) (d : Nat), d < devCount s →
    irlen s d = ((readWord s.mem (descBase + 8 * d + 4)).extractLsb' 0 16).toNat ∧
    irlenBefore s d = ((List.range d).map (irlen s)).sum ∧
    irlenAfter s d = ((List.range (devCount s - 1 - d)).map fun j => irlen s (d + 1 + j)).sum ∧
    totalIR s = ((List.range (devCount s)).map (irlen s)).sum ∧
    devsBefore s d = d ∧ devsAfter s d = devCount s - 1 - d

/-- R184: the padding counts and the device's own length make up the chain's; R185's first sentence for the devices. -/
def Obligations.PaddingCountsPartitionTheChain : Prop :=
  ∀ (s : State) (d : Nat), d < devCount s →
    irlenBefore s d + irlen s d + irlenAfter s d = totalIR s ∧ devsBefore s d + 1 + devsAfter s d = devCount s

/-- R180: LOAD_CHAIN reports the first of ALREADY_CONFIGURED, CHAIN_N and DESC_IRLEN, and otherwise sets CONFIGURED; it issues
no scan, and nothing else changes. COUNT = 0 loads the empty chain. -/
def Obligations.LoadChainResult : Prop :=
  ∀ (d : Nat) (s : State), s.pos = .start →
    (s.configured = true →
      exec (.loadChain d) s =
        .next { s with phase := .idle, pos := .start, reply := .ok [], detail := .alreadyConfigured }) ∧
    (s.configured = false → s.cfg.maxDevices < devCount s →
      exec (.loadChain d) s = .next { s with phase := .idle, pos := .start, reply := .ok [], detail := .chainN }) ∧
    (s.configured = false → devCount s ≤ s.cfg.maxDevices →
      (∃ i < devCount s, irlen s i = 0 ∨ s.cfg.maxIrlen < irlen s i) →
      exec (.loadChain d) s = .next { s with phase := .idle, pos := .start, reply := .ok [], detail := .descIrlen }) ∧
    (s.configured = false → devCount s ≤ s.cfg.maxDevices →
      (∀ i < devCount s, 1 ≤ irlen s i ∧ irlen s i ≤ s.cfg.maxIrlen) →
      exec (.loadChain d) s = .next { s with phase := .idle, pos := .start, reply := .ok [], configured := true })

/-- R181: CLEAR_CHAIN clears CONFIGURED, whatever it was; nothing else changes. -/
def Obligations.ClearChainResult : Prop :=
  ∀ (d : Nat) (s : State), s.pos = .start →
    exec (.clearChain d) s = .next { s with phase := .idle, pos := .start, reply := .ok [], configured := false }

/-- R188, R189: DEVICE_COUNT reports N and TOTAL_IR_LENGTH the sum of all IR lengths, in RESULT; nothing else changes. -/
def Obligations.ChainQueriesReport : Prop :=
  ∀ (d : Nat) (s : State), s.pos = .start → s.configured = true →
    exec (.deviceCount d) s =
      .next { s with phase := .idle, pos := .start, reply := .ok [], result := zext32 (devCount s) } ∧
    exec (.totalIrLength d) s =
      .next { s with phase := .idle, pos := .start, reply := .ok [],
                     result := zext32 ((List.range (devCount s)).map (irlen s)).sum }

/-- R191, R45: DEVICE_VIEW writes the six DV_* registers with device d's attributes; nothing else changes. -/
def Obligations.DeviceViewReports : Prop :=
  ∀ (d : Nat) (s : State), s.pos = .start → s.configured = true → d < devCount s →
    exec (.deviceView d) s =
      .next { s with
        phase := .idle, pos := .start, reply := .ok [],
        dvIdcode := descIdcode s d, dvIrlen := BitVec.ofNat 16 (irlen s d),
        dvIrlenBefore := BitVec.ofNat 16 ((List.range d).map (irlen s)).sum,
        dvIrlenAfter := BitVec.ofNat 16 ((List.range (devCount s - 1 - d)).map fun j => irlen s (d + 1 + j)).sum,
        dvDevsBefore := BitVec.ofNat 16 d, dvDevsAfter := BitVec.ofNat 16 (devCount s - 1 - d) }

/-- R187, R192: a probe of a path of length L: below M it measures exactly L and leaves the path all zeros; from M to 2M-1 it
finds no edge; of longer paths R187 leaves the outcome open (I4), and this says nothing. A capture stuck at 0 is inconsistent and one stuck at 1 has no edge. -/
def Obligations.ProbeMeasuresAPath : Prop :=
  ∀ (m : Nat) (c : Bits), 1 ≤ m →
    (c.length < m →
      (shiftPath (append (zeros m) (ones m)) c).1 = zeros c.length ∧
      evaluateProbe m (shiftPath (append (zeros m) (ones m)) c).2 = .ok c.length) ∧
    (m ≤ c.length → c.length < 2 * m →
      evaluateProbe m (shiftPath (append (zeros m) (ones m)) c).2 = .error .probeNoEdge) ∧
    evaluateProbe m (zeros (2 * m)) = .error .probeInconsistent ∧
    evaluateProbe m (ones (2 * m)) = .error .probeNoEdge

/-- R187's pseudocode read back: the probe answers L exactly on a capture that begins with M - L zeros and M ones, L below M. -/
def Obligations.ProbeVerdictMeansItsPattern : Prop :=
  ∀ (m l : Nat) (o : Bits), 1 ≤ m →
    (evaluateProbe m o = .ok l ↔ l < m ∧ ∃ c, o = zeros (m - l) ++ ones m ++ c)

/-- R190, R186, R62: TOTAL_DR_LENGTH issues the probe, one DR scan with no idle cycles, and on a capture that measures L
completes with RESULT = L. -/
def Obligations.TotalDrLengthRuns : Prop :=
  ∀ (d : Nat) (s : State), s.pos = .start → s.configured = true →
    ∃ req : ScanReq,
      req = { kind := .dr, bits := zeros s.cfg.drProbeMax ++ ones s.cfg.drProbeMax, idle := 0, capture := true } ∧
      exec (.totalDrLength d) s = .next { s with phase := .waitScan req, pos := .probe, issued := s.issued + 1 } ∧
      ∀ (o : Bits) (l : Nat), o.length = 2 * s.cfg.drProbeMax → evaluateProbe s.cfg.drProbeMax o = .ok l →
        exec (.totalDrLength d)
            (takeResponse (.ok o) { s with phase := .waitScan req, pos := .probe, issued := s.issued + 1 }) =
          .next { s with phase := .idle, pos := .start, reply := .ok [], issued := s.issued + 1, result := zext32 l }

/-! ### The IR commands -/

/-- R210, R230: the padded IR sequence is as long as the chain's IR path and the padded DR sequence has one bit per other
device; stripping a capture of that length keeps exactly the device's bits, whatever the padding positions hold (R214, R236). -/
def Obligations.StripsKeepTheDevicesBits : Prop :=
  ∀ (s : State) (d : Nat) (b pre r post : Bits), d < devCount s → r.length = b.length →
    (b.length = irlen s d → pre.length = irlenBefore s d → post.length = irlenAfter s d →
      (padIR s d b).length = totalIR s ∧ padIR s d b = ones (irlenBefore s d) ++ b ++ ones (irlenAfter s d) ∧
      (pre ++ r ++ post).length = totalIR s ∧ stripIR s d (pre ++ r ++ post) = some r) ∧
    (pre.length = d → post.length = devCount s - 1 - d →
      (padDR s d b).length = devCount s - 1 + b.length ∧
      padDR s d b = ones d ++ b ++ ones (devCount s - 1 - d) ∧
      (pre ++ r ++ post).length = devCount s - 1 + b.length ∧ stripDR s d (pre ++ r ++ post) = some r)

/-- R211, R62: WRITE_IR issues one IR scan, the operand between all-ones padding, capture off, and on its response completes
with no result. -/
def Obligations.WriteIrRuns : Prop :=
  ∀ (d : Nat) (s : State), s.pos = .start → s.configured = true → d < devCount s →
    txCount s ≤ s.cfg.maxSeqBits → txCount s = irlen s d →
    ∃ req : ScanReq,
      req = { kind := .ir, bits := ones (irlenBefore s d) ++ txOperand s (irlen s d) ++ ones (irlenAfter s d),
              idle := 0, capture := false } ∧
      exec (.writeIr d) s = .next { s with phase := .waitScan req, pos := .ir, issued := s.issued + 1 } ∧
      ∀ data : Bits,
        exec (.writeIr d)
            (takeResponse (.ok data) { s with phase := .waitScan req, pos := .ir, issued := s.issued + 1 }) =
          .next { s with phase := .idle, pos := .start, reply := .ok [], issued := s.issued + 1 }

/-- R212, R214, R50: READ_WRITE_IR issues that scan with capture on, and on a capture `pre ++ r ++ post` completes with RX and
RESULT holding the device's bits `r` (R50, R84: word k of RX is bits 32k to 32k+31 of its value) and RX_LEN its IR length; no byte
outside the RX buffer changes. -/
def Obligations.ReadWriteIrRuns : Prop :=
  ∀ (d : Nat) (s : State), s.pos = .start → s.configured = true → d < devCount s →
    txCount s ≤ s.cfg.maxSeqBits → txCount s = irlen s d → s.cfg.wf = true → Memory.wf s.mem = true →
    ∃ req : ScanReq,
      req = { kind := .ir, bits := ones (irlenBefore s d) ++ txOperand s (irlen s d) ++ ones (irlenAfter s d),
              idle := 0, capture := true } ∧
      exec (.readWriteIr d) s = .next { s with phase := .waitScan req, pos := .ir, issued := s.issued + 1 } ∧
      ∀ pre r post : Bits, pre.length = irlenBefore s d → r.length = irlen s d → post.length = irlenAfter s d →
        ∃ m,
          exec (.readWriteIr d)
              (takeResponse (.ok (pre ++ r ++ post))
                { s with phase := .waitScan req, pos := .ir, issued := s.issued + 1 }) =
            .next { s with phase := .idle, pos := .start, reply := .ok [], issued := s.issued + 1, mem := m,
                           rxLen := BitVec.ofNat 16 (irlen s d), result := zext32 (toValue r) } ∧
          bufferValue m rxBase s.cfg.seqWords = toValue r ∧
          (∀ k < s.cfg.seqWords, readWord m (0x2000 + 4 * k) = BitVec.ofNat 32 (toValue r / 2 ^ (32 * k))) ∧
          ∀ a, ¬ inRx s a → readByte m a = readByte s.mem a

/-- R213: VERIFY_IR_CAPTURE writes all-ones to the whole chain and reports in BOOL whether the captured value is 1 mod 4, with
ERR = OK either way; RX, RX_LEN and RESULT hold the capture. -/
def Obligations.VerifyIrCaptureRuns : Prop :=
  ∀ (d : Nat) (s : State), s.pos = .start → s.configured = true → d < devCount s →
    2 ≤ irlen s d → irlen s d ≤ s.cfg.maxIrlen → s.cfg.wf = true → Memory.wf s.mem = true →
    ∃ req : ScanReq,
      req = { kind := .ir, bits := ones (totalIR s), idle := 0, capture := true } ∧
      exec (.verifyIrCapture d) s = .next { s with phase := .waitScan req, pos := .ir, issued := s.issued + 1 } ∧
      ∀ pre r post : Bits, pre.length = irlenBefore s d → r.length = irlen s d → post.length = irlenAfter s d →
        ∃ m,
          exec (.verifyIrCapture d)
              (takeResponse (.ok (pre ++ r ++ post))
                { s with phase := .waitScan req, pos := .ir, issued := s.issued + 1 }) =
            .next { s with phase := .idle, pos := .start, reply := .ok [], issued := s.issued + 1, mem := m,
                           rxLen := BitVec.ofNat 16 (irlen s d), result := zext32 (toValue r),
                           boolFlag := decide (toValue r % 4 = 1) } ∧
          bufferValue m rxBase s.cfg.seqWords = toValue r ∧
          (∀ k < s.cfg.seqWords, readWord m (0x2000 + 4 * k) = BitVec.ofNat 32 (toValue r / 2 ^ (32 * k))) ∧
          ∀ a, ¬ inRx s a → readByte m a = readByte s.mem a

/-! ### The DR commands -/

/-- R231, R100: WRITE_DR issues one DR scan, the operand between one bit per other device, with IDLE.CYCLES and capture off, and
on its response completes with no result. -/
def Obligations.WriteDrRuns : Prop :=
  ∀ (d : Nat) (s : State), s.pos = .start → s.configured = true → d < devCount s → txCount s ≤ s.cfg.maxSeqBits →
    ∃ req : ScanReq,
      req = { kind := .dr, bits := ones d ++ txOperand s (txCount s) ++ ones (devCount s - 1 - d), idle := s.idle,
              capture := false } ∧
      exec (.writeDr d) s = .next { s with phase := .waitScan req, pos := .dr, issued := s.issued + 1 } ∧
      ∀ data : Bits,
        exec (.writeDr d)
            (takeResponse (.ok data) { s with phase := .waitScan req, pos := .dr, issued := s.issued + 1 }) =
          .next { s with phase := .idle, pos := .start, reply := .ok [], issued := s.issued + 1 }

/-- R232, R236: READ_WRITE_DR issues that scan with capture on, and on a capture `pre ++ r ++ post` completes with RX and RESULT
holding the device's bits `r` and RX_LEN the operand's length; no byte outside the RX buffer changes. -/
def Obligations.ReadWriteDrRuns : Prop :=
  ∀ (d : Nat) (s : State), s.pos = .start → s.configured = true → d < devCount s → txCount s ≤ s.cfg.maxSeqBits →
    s.cfg.wf = true → Memory.wf s.mem = true →
    ∃ req : ScanReq,
      req = { kind := .dr, bits := ones d ++ txOperand s (txCount s) ++ ones (devCount s - 1 - d), idle := s.idle,
              capture := true } ∧
      exec (.readWriteDr d) s = .next { s with phase := .waitScan req, pos := .dr, issued := s.issued + 1 } ∧
      ∀ pre r post : Bits, pre.length = d → r.length = txCount s → post.length = devCount s - 1 - d →
        ∃ m,
          exec (.readWriteDr d)
              (takeResponse (.ok (pre ++ r ++ post))
                { s with phase := .waitScan req, pos := .dr, issued := s.issued + 1 }) =
            .next { s with phase := .idle, pos := .start, reply := .ok [], issued := s.issued + 1, mem := m,
                           rxLen := s.txLen, result := zext32 (toValue r) } ∧
          bufferValue m rxBase s.cfg.seqWords = toValue r ∧
          (∀ k < s.cfg.seqWords, readWord m (0x2000 + 4 * k) = BitVec.ofNat 32 (toValue r / 2 ^ (32 * k))) ∧
          ∀ a, ¬ inRx s a → readByte m a = readByte s.mem a

/-- R233, R13: CURRENT_DR_LENGTH probes, and completes with RESULT the total less one bit per other device, in two's complement:
a total of fewer bits than the other devices gives a negative value, and no value is lost while M is at most 2^31. -/
def Obligations.CurrentDrLengthRuns : Prop :=
  ∀ (d : Nat) (s : State), s.pos = .start → s.configured = true → d < devCount s →
    exec (.currentDrLength d) s =
      .next { s with phase := .waitScan (probeReq s), pos := .probe, issued := s.issued + 1 } ∧
    ∀ (o : Bits) (l : Nat), o.length = 2 * s.cfg.drProbeMax → evaluateProbe s.cfg.drProbeMax o = .ok l →
      let c : Int := (l : Int) - d - ((devCount s : Int) - 1 - d)
      exec (.currentDrLength d)
          (takeResponse (.ok o) { s with phase := .waitScan (probeReq s), pos := .probe, issued := s.issued + 1 }) =
        .next { s with phase := .idle, pos := .start, reply := .ok [], issued := s.issued + 1, result := enc32 c } ∧
      (s.cfg.drProbeMax ≤ 2 ^ 31 → sext32 (enc32 c) = c)

/-- R234, D46: VERIFY_DR_LENGTH writes the instruction, then probes; the observed length is compared with EXPECT as an integer:
equal, it is the result; different, a ProtocolMismatchError carries the instruction and both lengths. -/
def Obligations.VerifyDrLengthRuns : Prop :=
  ∀ (d : Nat) (s : State), s.pos = .start → s.configured = true → d < devCount s →
    txCount s ≤ s.cfg.maxSeqBits → txCount s = irlen s d →
    let ir := scanIR (ones (irlenBefore s d) ++ txOperand s (irlen s d) ++ ones (irlenAfter s d)) false
    let s1 := { s with phase := .waitScan ir, pos := .ir, issued := s.issued + 1 }
    let s2 := { s with phase := .waitScan (probeReq s), pos := .probe, reply := .ok [], issued := s.issued + 2 }
    exec (.verifyDrLength d) s = .next s1 ∧
    (∀ data, exec (.verifyDrLength d) (takeResponse (.ok data) s1) = .next s2) ∧
    ∀ (o : Bits) (l : Nat), o.length = 2 * s.cfg.drProbeMax → evaluateProbe s.cfg.drProbeMax o = .ok l →
      let c : Int := (l : Int) - d - ((devCount s : Int) - 1 - d)
      (c = s.expect.toNat →
        exec (.verifyDrLength d) (takeResponse (.ok o) s2) =
          .next { s with phase := .idle, pos := .start, reply := .ok [], issued := s.issued + 2, result := enc32 c }) ∧
      (c ≠ s.expect.toNat →
        exec (.verifyDrLength d) (takeResponse (.ok o) s2) =
          .next { s with phase := .idle, pos := .start, reply := .ok [], issued := s.issued + 2, detail := .drLength,
                         mmInstr := zext32 (toValue (txOperand s (irlen s d))), mmObserved := enc32 c,
                         mmExpected := s.expect })

/-- R235: CHECK_DR does the same, and where the lengths agree it reads that many bits of the DR with zeros and no idle cycles;
RX, RX_LEN and RESULT hold them. After a mismatch no DR read is issued. -/
def Obligations.CheckDrRuns : Prop :=
  ∀ (d : Nat) (s : State), s.pos = .start → s.configured = true → d < devCount s →
    txCount s ≤ s.cfg.maxSeqBits → txCount s = irlen s d → s.expect.toNat ≤ s.cfg.maxSeqBits →
    s.cfg.wf = true → Memory.wf s.mem = true →
    let e := s.expect.toNat
    let ir := scanIR (ones (irlenBefore s d) ++ txOperand s (irlen s d) ++ ones (irlenAfter s d)) false
    let rd := scanDR (ones d ++ zeros e ++ ones (devCount s - 1 - d)) 0 true
    let s1 := { s with phase := .waitScan ir, pos := .ir, issued := s.issued + 1 }
    let s2 := { s with phase := .waitScan (probeReq s), pos := .probe, reply := .ok [], issued := s.issued + 2 }
    exec (.checkDr d) s = .next s1 ∧
    (∀ data, exec (.checkDr d) (takeResponse (.ok data) s1) = .next s2) ∧
    ∀ (o : Bits) (l : Nat), o.length = 2 * s.cfg.drProbeMax → evaluateProbe s.cfg.drProbeMax o = .ok l →
      let c : Int := (l : Int) - d - ((devCount s : Int) - 1 - d)
      let s3 := { s with phase := .waitScan rd, pos := .dr, reply := .ok o, issued := s.issued + 3 }
      (c ≠ e →
        exec (.checkDr d) (takeResponse (.ok o) s2) =
          .next { s with phase := .idle, pos := .start, reply := .ok [], issued := s.issued + 2, detail := .drLength,
                         mmInstr := zext32 (toValue (txOperand s (irlen s d))), mmObserved := enc32 c,
                         mmExpected := s.expect }) ∧
      (c = e → exec (.checkDr d) (takeResponse (.ok o) s2) = .next s3 ∧
        ∀ pre r post : Bits, pre.length = d → r.length = e → post.length = devCount s - 1 - d →
          ∃ m,
            exec (.checkDr d) (takeResponse (.ok (pre ++ r ++ post)) s3) =
              .next { s with phase := .idle, pos := .start, reply := .ok [], issued := s.issued + 3, mem := m,
                             rxLen := BitVec.ofNat 16 e, result := zext32 (toValue r) } ∧
            bufferValue m rxBase s.cfg.seqWords = toValue r ∧
            (∀ k < s.cfg.seqWords, readWord m (0x2000 + 4 * k) = BitVec.ofNat 32 (toValue r / 2 ^ (32 * k))) ∧
            ∀ a, ¬ inRx s a → readByte m a = readByte s.mem a)

/-! ### The survey -/

/-- R260: SURVEY sets its cursor to the device and 0 and writes the first IR value, all zeros, capture off. -/
def Obligations.SurveyStarts : Prop :=
  ∀ (d : Nat) (s : State), s.pos = .start → s.configured = true → d < devCount s →
    exec (.survey d) s =
      .next { s with
        survDev := d, survNext := 0, survCount := 0, pos := .ir, issued := s.issued + 1,
        phase := .waitScan (scanIR (ones (irlenBefore s d) ++ zeros (irlen s d) ++ ones (irlenAfter s d)) false) }

/-- R261, R262: a failed IR write is recorded and no probe is issued; otherwise the probe is issued, and its outcome, a failure
included, is recorded: SURV_IR the value, SURV_STAT the error, SURV_DRLEN the device's DR length or 0. The record is presented
(REC_VALID, phase = WaitAck) and STATUS.ERR and DETAIL stay as they were. -/
def Obligations.SurveyRecordsEveryOutcome : Prop :=
  ∀ (d : Nat) (s : State),
    (s.pos = .ir → ∀ e, s.reply = .failed e → e ≠ .none →
      exec (.survey d) s =
        .next { s with phase := .waitAck, pos := .record, reply := .ok [],
                       survIr := zext32 s.survNext, survStat := e, survDrlen := 0 }) ∧
    (s.pos = .ir → ∀ o, s.reply = .ok o →
      exec (.survey d) s = .next { s with phase := .waitScan (probeReq s), pos := .probe, issued := s.issued + 1 }) ∧
    (s.pos = .probe → ∀ e, e ≠ .none →
      (s.reply = .failed e ∨ ∃ o, s.reply = .ok o ∧ evaluateProbe s.cfg.drProbeMax o = .error e) →
      exec (.survey d) s =
        .next { s with phase := .waitAck, pos := .record, reply := .ok [],
                       survIr := zext32 s.survNext, survStat := e, survDrlen := 0 }) ∧
    (s.pos = .probe → s.survDev < devCount s → ∀ o l, s.reply = .ok o → evaluateProbe s.cfg.drProbeMax o = .ok l →
      exec (.survey d) s =
        .next { s with phase := .waitAck, pos := .record, reply := .ok [],
                       survIr := zext32 s.survNext, survStat := .none,
                       survDrlen := enc32 ((l : Int) - s.survDev - ((devCount s : Int) - 1 - s.survDev)) })

/-- R263, R44: a SURV_ACK write while a record is out: STOP ends the survey with RESULT the number of records, NEXT goes on to
the next value or ends it after the last, neither bit is ignored; while no record is out the write is ignored. That all of it
happens in the step of the write is the model's choice (log 14). -/
def Obligations.SurveyAcknowledgement : Prop :=
  ∀ (s : State) (w : Word),
    (s.recValid = false → hostWrite 0x038 4 w s = .next s) ∧
    (s.recValid = true →
      (w.getLsbD 1 = true →
        hostWrite 0x038 4 w s =
          .next { s with phase := .idle, pos := .start, reply := .ok [], survCount := s.survCount + 1,
                         result := zext32 (s.survCount + 1) }) ∧
      (w.getLsbD 1 = false → w.getLsbD 0 = true → s.survNext + 1 < 2 ^ irlen s s.survDev →
        hostWrite 0x038 4 w s =
          .next { s with
            survCount := s.survCount + 1, survNext := s.survNext + 1, pos := .ir, issued := s.issued + 1,
            phase := .waitScan (scanIR
              (ones (irlenBefore s s.survDev) ++ bitsOf (s.survNext + 1) (irlen s s.survDev) ++
                ones (irlenAfter s s.survDev)) false) }) ∧
      (w.getLsbD 1 = false → w.getLsbD 0 = true → 2 ^ irlen s s.survDev ≤ s.survNext + 1 →
        hostWrite 0x038 4 w s =
          .next { s with phase := .idle, pos := .start, reply := .ok [], survCount := s.survCount + 1,
                         survNext := s.survNext + 1, result := zext32 (s.survCount + 1) }) ∧
      (w.getLsbD 1 = false → w.getLsbD 0 = false → hostWrite 0x038 4 w s = .next s))

/-- R265, V8: a full survey of device d, every record acknowledged with NEXT, whatever the driver answers to each value's scans.
For v = 0, 1, ... 2^irlen - 1 in that order it writes the IR value v in one IR scan, then probes if that scan did not fail, and
presents the record of v, a failed IR write's as DRIVER_FAILURE. The requests are numbered, so those are all there are. It
completes with ERR = OK and RESULT the number of values mod 2^32. The steps it takes are log 4's, the requests' serials log 7's. -/
def Obligations.FullSurveyCoversEveryValue : Prop :=
  ∀ (d : Nat) (s : State) (answers : List (Option Response)),
    s.phase = .running s.cmd → decode s.cmd = .command (.survey d) → s.pos = .start →
    s.configured = true → d < devCount s → s.detail = .none → answers.length = 2 ^ irlen s d →
    s.inbox = .tick :: surveyInputs (s.issued + 1) answers →
    let after := fun k => Host.Core.run Sys2Proof.core k s
    let steps := fun v => 1 + (surveyInputs (s.issued + 1) (answers.take v)).length
    let requests := fun v => s.issued + v + ((answers.take v).filter Option.isSome).length
    (∀ v < 2 ^ irlen s d,
      (∃ t, after (steps v) = .next t ∧ t.issued = requests v + 1 ∧
        t.phase = .waitScan
          (scanIR (ones (irlenBefore s d) ++ bitsOf v (irlen s d) ++ ones (irlenAfter s d)) false)) ∧
      (∀ r, answers[v]? = some (some r) →
        ∃ t, after (steps v + 2) = .next t ∧ t.issued = requests v + 2 ∧ t.phase = .waitScan (probeReq s)) ∧
      ∃ t, after (steps (v + 1) - 1) = .next t ∧ t.issued = requests (v + 1) ∧
        t.phase = .waitAck ∧ t.survIr = BitVec.ofNat 32 v ∧
        (answers[v]? = some none → t.survStat = .driverFailure ∧ t.survDrlen = 0)) ∧
    ∃ t, after s.inbox.length = .next t ∧
      t.phase = .idle ∧ t.inbox = [] ∧ t.detail = .none ∧
      t.result = BitVec.ofNat 32 (2 ^ irlen s d) ∧
      t.survIr = BitVec.ofNat 32 (2 ^ irlen s d - 1) ∧
      t.issued = s.issued + 2 ^ irlen s d + (answers.filter Option.isSome).length

/-! ### Errors -/

/-- R286, steps 3 to 7, R287: a command reports the first of its static checks that fails, in R286's order, issues no scan, and
changes nothing but ERR and DETAIL as it completes. The conditions of steps 4 to 7 are written out, each with the ones before it
passing; LOAD_CHAIN's are in LoadChainResult. -/
def Obligations.StaticErrorsInOrder : Prop :=
  ∀ (i : Instr) (s : State) (d : Nat), s.pos = .start →
    let fails := fun e : Detail => exec i s = .next { s with phase := .idle, pos := .start, reply := .ok [], detail := e }
    let deviceOk := s.configured = true ∧ d < devCount s
    let lengthOk := deviceOk ∧ s.txLen.toNat ≤ s.cfg.maxSeqBits
    (∀ e, firstError (staticChecks i s) = some e → fails e) ∧
    (i ≠ .loadChain d → i ≠ .clearChain d → i.dev = d → s.configured = false → fails .notConfigured) ∧
    (i ∈ [.deviceView d, .writeIr d, .readWriteIr d, .verifyIrCapture d, .writeDr d, .readWriteDr d, .currentDrLength d,
        .verifyDrLength d, .checkDr d, .survey d] →
      s.configured = true → devCount s ≤ d → fails .devIndex) ∧
    (i ∈ [.writeIr d, .readWriteIr d, .writeDr d, .readWriteDr d, .verifyDrLength d, .checkDr d] →
      deviceOk → s.cfg.maxSeqBits < s.txLen.toNat → fails .txLen) ∧
    (i ∈ [.writeIr d, .readWriteIr d, .verifyDrLength d, .checkDr d] →
      lengthOk → s.txLen.toNat ≠ irlen s d → fails .irWidth) ∧
    (i = .verifyIrCapture d → deviceOk → irlen s d < 2 → fails .irlenTooShort) ∧
    (i = .checkDr d → lengthOk → s.txLen.toNat = irlen s d → s.cfg.maxSeqBits < s.expect.toNat → fails .expectCapacity)

/-- R97, R94, R281: the response to a waiting scan ends the command: a TransportError as DRIVER_FAILURE, a capture of another
length as CAPTURE_LENGTH. It is not retried, and nothing but ERR and DETAIL changes. SURVEY is the exception. -/
def Obligations.TransportErrorsEndTheCommand : Prop :=
  ∀ (i : Instr) (s : State) (req : ScanReq) (r : Response),
    (∀ d, i ≠ .survey d) → s.phase = .waitScan req → scanAt i s s.pos = some req →
    (r = .transportError →
      exec i (takeResponse r s) =
        .next { s with phase := .idle, pos := .start, reply := .ok [], detail := .driverFailure }) ∧
    (∀ o, r = .ok o → req.capture = true → o.length ≠ req.bits.length →
      exec i (takeResponse r s) =
        .next { s with phase := .idle, pos := .start, reply := .ok [], detail := .captureLength })

/-- R187, R281: a command that probes ends with the probe's own verdict when that is an error, and changes nothing but ERR and
DETAIL. -/
def Obligations.FailedProbesEndTheCommand : Prop :=
  ∀ (i : Instr) (s : State) (o : Bits) (e : Detail),
    (∀ d, i ≠ .survey d) → scanAt i s .probe = some (probeReq s) → s.pos = .probe → s.reply = .ok o →
    evaluateProbe s.cfg.drProbeMax o = .error e →
    exec i s = .next { s with phase := .idle, pos := .start, reply := .ok [], detail := e }

/-- R289, R49, R61: no command changes CMD, the argument registers, OVERRUN, the TX buffer or the descriptor table; of memory it
changes at most the RX buffer; and only LOAD_CHAIN and CLEAR_CHAIN change CONFIGURED. -/
def Obligations.CommandsLeaveArgumentsAlone : Prop :=
  ∀ (i : Instr) (s t : State), exec i s = .next t →
    t.cfg = s.cfg ∧ t.cmd = s.cmd ∧ t.txLen = s.txLen ∧ t.idle = s.idle ∧ t.expect = s.expect ∧ t.chainN = s.chainN ∧
    t.overrun = s.overrun ∧ t.inbox = s.inbox ∧ t.driver = s.driver ∧ t.readData = s.readData ∧
    (∀ a, ¬ inRx s a → readByte t.mem a = readByte s.mem a) ∧
    ((∀ d, i ≠ .loadChain d ∧ i ≠ .clearChain d) → t.configured = s.configured)

/-! ### The machine as a whole -/

/-- R65: the invariant holds in the reset state. -/
def Obligations.InvHoldsAtReset : Prop := Inv State.reset

/-- The invariant is kept by every step, whatever input comes next: memory in canonical form within the windows, a loaded chain
within its bounds, phase, position and outstanding scan together, results clear while a command runs, RX clear above RX_LEN. -/
def Obligations.InvKeptByEveryStep : Prop :=
  ∀ s t : State, Inv s → step s = .next t → Inv t

/-- R161, R81: from a legal state no step faults, and the only step refused is a host access outside the interface. -/
def Obligations.LegalStatesNeverFault : Prop :=
  ∀ s : State, Inv s →
    (nextRefused s = false → ∃ t, step s = .next t) ∧
    (nextRefused s = true → ∃ addr size, step s = .refused (.outsideInterface addr size))

/-- R7, R8: every scan the controller has outstanding is at most MAX_SCAN_BITS long. -/
def Obligations.ScansFitTheDriver : Prop :=
  ∀ (s : State) (req : ScanReq), Inv s → s.phase = .waitScan req → req.bits.length ≤ s.cfg.maxScanBits

/-- R64, R95: a step issues at most one request, and only when none is outstanding; in WaitScan a step keeps the very request
outstanding, or takes the response to it, or is the reset. The response is the input that names the last request, or what the
attached driver answers where a move of the machine is next; the command sees it as R94 and R97 say. The reset is R321's. That a
response names its request by a serial number is the model's choice (log 7), and so are the list of inputs (log 1), the attached
driver (log 8) and the one-input poll and waitrec (log 18), by which a move is next on a tick, a poll, a waitrec or no input. -/
def Obligations.OneScanIsOutstandingAtATime : Prop :=
  ∀ s t : State, step s = .next t →
    (t.issued = s.issued ∨
      (t.issued = s.issued + 1 ∧ (∀ req, s.phase ≠ .waitScan req) ∧ ∃ req, t.phase = .waitScan req)) ∧
    ∀ req, s.phase = .waitScan req →
      t.phase = .waitScan req ∨ (t.phase = .idle ∧ s.inbox.head? = some .reset) ∨
      ∃ r : Response, t.phase = .running s.cmd ∧ t.reply = replyOf req r ∧
        (s.inbox.head? = some (.respond s.issued r) ∨
          (s.inbox.head? ∈ [none, some .tick, some .poll, some .waitRec] ∧
            driverAnswer s.issued s.driver req = some (r, t.driver)))

/-- R52, R39, R51: while CONFIGURED stays 1 a step changes neither CHAIN_N nor any byte of the descriptor table. -/
def Obligations.LoadedChainNeverChanges : Prop :=
  ∀ s t : State, s.cfg.wf = true → s.configured = true → t.configured = true → step s = .next t →
    t.chainN = s.chainN ∧ ∀ a, descBase ≤ a → readByte t.mem a = readByte s.mem a

/-- R52: CONFIGURED becomes 1 only as LOAD_CHAIN completes, and 0 only as CLEAR_CHAIN completes or by reset. -/
def Obligations.OnlyLoadAndClearChangeConfigured : Prop :=
  ∀ s t : State, step s = .next t →
    (s.configured = false → t.configured = true →
      ∃ w d, s.phase = .running w ∧ decode w = .command (.loadChain d) ∧ t.phase = .idle ∧ t.detail = s.detail) ∧
    (s.configured = true → t.configured = false →
      s.inbox.head? = some .reset ∨
      ∃ w d, s.phase = .running w ∧ decode w = .command (.clearChain d) ∧ t.phase = .idle ∧ t.detail = s.detail)

/-- R63, R89: while BUSY = 1, until a reset, no step changes CMD, an argument register, the TX buffer or the descriptor table. -/
def Obligations.ArgumentsAreStableWhileBusy : Prop :=
  ∀ s t : State, s.busy = true → s.inbox.head? ≠ some .reset → step s = .next t →
    t.cmd = s.cmd ∧ t.txLen = s.txLen ∧ t.idle = s.idle ∧ t.expect = s.expect ∧ t.chainN = s.chainN ∧
    ∀ a, ¬ inRx s a → readByte t.mem a = readByte s.mem a

/-- R87, R293, R298: when idle a step that is no host write changes no state of the controller but by reset: reads, ticks, polls
and late responses leave every field but the bus value and the inbox. -/
def Obligations.IdleControllerTakesNoStep : Prop :=
  ∀ s t : State, s.phase = .idle → s.inbox.head? ≠ some .reset → (∀ a n v, s.inbox.head? ≠ some (.write a n v)) →
    step s = .next t → t = { s with inbox := s.inbox.tail, readData := t.readData }

/-! ### The reference chain -/

/-- R110, C6, V4: on a delayed-echo chain an IR scan as long as the IR path captures exactly the previous IR scan's input, so
after a WRITE_IR of `b` the strip of a READ_WRITE_IR returns `b`. -/
def Obligations.EchoReturnsThePreviousScan : Prop :=
  ∀ (ds : List RefDevice) (s : State) (d : Nat) (b x : Bits),
    (∀ dev ∈ ds, dev.captureIr = none) → (ds.map fun dev => dev.ir.length).sum = totalIR s →
    d < devCount s → b.length = irlen s d → x.length = irlen s d →
    (chainScanIR (chainScanIR ds (padIR s d b)).1 (padIR s d x)).2 = padIR s d b ∧
    stripIR s d (chainScanIR (chainScanIR ds (padIR s d b)).1 (padIR s d x)).2 = some b
end

