-- ==== Sys2Proof/Laws/BitSeq.lean ====
section
/-! SUPPORT. The Bit Sequence primitives: lengths, values, padding and stripping. -/

namespace Sys2Proof.Machine

@[simp] theorem ones_length (n : Nat) : (ones n).length = n := List.length_replicate

@[simp] theorem zeros_length (n : Nat) : (zeros n).length = n := List.length_replicate

@[simp] theorem append_length (a b : Bits) : (append a b).length = a.length + b.length := List.length_append

@[simp] theorem appendOnes_length (a : Bits) (n : Nat) : (appendOnes a n).length = a.length + n := by
  simp [appendOnes]

@[simp] theorem bitsOf_length (x : Nat) : ∀ n, (bitsOf x n).length = n
  | 0 => rfl
  | n + 1 => by simp [bitsOf, bitsOf_length x n]

theorem fromValue_of_lt {x n : Nat} (h : x < 2 ^ n) : fromValue x n = some (bitsOf x n) := by
  simp [fromValue, h]

@[simp] theorem txOperand_length (s : State) (n : Nat) : (txOperand s n).length = n := bitsOf_length _ n

@[simp] theorem txArg_length (s : State) : (txArg s).length = txCount s := bitsOf_length _ _

/-- What a strip keeps: the middle of the capture, when the capture is long enough. -/
theorem strip_of_le {pre post : Nat} {o : Bits} (h : pre + post ≤ o.length) :
    strip pre post o = some ((o.drop pre).take (o.length - pre - post)) := by
  have h1 : pre ≤ o.length := by omega
  have h2 : post ≤ (o.drop pre).length := by rw [List.length_drop]; omega
  have h3 : post ≤ o.length - pre := by omega
  simp [strip, dropHead, dropTail, h1, h3]

theorem strip_length {pre post : Nat} {o r : Bits} (h : strip pre post o = some r) :
    r.length + pre + post = o.length := by
  by_cases hl : pre + post ≤ o.length
  · rw [strip_of_le hl, Option.some.injEq] at h
    subst h
    simp only [List.length_take, List.length_drop]
    omega
  · exfalso
    unfold strip dropHead dropTail at h
    by_cases h1 : pre ≤ o.length
    · have h3 : ¬ post ≤ o.length - pre := by omega
      simp [h1, h3] at h
    · simp [h1] at h

theorem toValue_lt : ∀ s : Bits, toValue s < 2 ^ s.length
  | [] => by simp [toValue]
  | b :: s => by
    have ih := toValue_lt s
    rw [List.length_cons, pow_succ]
    cases b <;> simp [toValue] <;> omega

/-- R183: a sum of IR lengths splits anywhere. -/
theorem irlenSum_add (s : State) (lo m : Nat) :
    ∀ n, irlenSum s lo (m + n) = irlenSum s lo m + irlenSum s (lo + m) n
  | 0 => rfl
  | n + 1 => by
    have ih := irlenSum_add s lo m n
    show irlenSum s lo (m + n) + irlen s (lo + (m + n)) = irlenSum s lo m + (irlenSum s (lo + m) n + irlen s (lo + m + n))
    rw [ih, Nat.add_assoc, Nat.add_assoc lo m n]

end Sys2Proof.Machine
end

