-- ==== Sys2Proof/Laws/Memory.lean ====
section
/-! SUPPORT. What the memory operations do: reading after writing, and that each keeps the canonical form. -/

namespace Sys2Proof.Machine

theorem wfAbove_mono {a b : Nat} (h : a ≤ b) : ∀ {m : List Host.Cell}, Memory.wfAbove b m = true → Memory.wfAbove a m = true
  | [], _ => rfl
  | (k, v) :: m, hm => by
    simp only [Memory.wfAbove, Bool.and_eq_true, decide_eq_true_eq] at hm ⊢
    exact ⟨⟨le_trans h hm.1.1, hm.1.2⟩, hm.2⟩

/-- Below the first listed address every byte reads as an unlisted one. -/
theorem readByte_below {a b : Nat} (h : a < b) : ∀ {m : List Host.Cell}, Memory.wfAbove b m = true → readByte m a = unlistedByte
  | [], _ => rfl
  | (k, v) :: m, hm => by
    simp only [Memory.wfAbove, Bool.and_eq_true, decide_eq_true_eq] at hm
    have hk : ¬ k = a := by omega
    simp only [readByte, hk, if_false]
    exact readByte_below (by omega : a < k + 1) hm.2

/-- A write leaves every other byte alone. -/
theorem readByte_writeByte_other {a a' : Nat} (v : Byte) (h : a' ≠ a) :
    ∀ m : List Host.Cell, readByte (writeByte m a v) a' = readByte m a'
  | [] => by
    by_cases hv : v = unlistedByte <;> simp [writeByte, readByte, hv, h.symm]
  | (k, b) :: m => by
    have ih := readByte_writeByte_other v h m
    unfold writeByte
    split
    · split <;> simp [readByte, h.symm]
    · split
      · next hk => subst hk; split <;> simp [readByte, h.symm]
      · simp [readByte, ih]

/-- A write to canonical memory is read back. -/
theorem readByte_writeByte_same (a : Nat) (v : Byte) :
    ∀ {b : Nat} {m : List Host.Cell}, Memory.wfAbove b m = true → readByte (writeByte m a v) a = v
  | _, [], _ => by
    by_cases hv : v = unlistedByte <;> simp [writeByte, readByte, hv]
  | _, (k, w) :: m, hm => by
    simp only [Memory.wfAbove, Bool.and_eq_true, decide_eq_true_eq] at hm
    unfold writeByte
    split
    · next hk =>
      split
      · next hv =>
        have : ¬ k = a := by omega
        simp only [readByte, this, if_false, hv]
        exact readByte_below (by omega : a < k + 1) hm.2
      · simp [readByte]
    · split
      · next hk =>
        subst hk
        split
        · next hv => rw [hv]; exact readByte_below (Nat.lt_succ_self _) hm.2
        · simp [readByte]
      · next hk =>
        have : ¬ k = a := fun h => hk h.symm
        simp only [readByte, this, if_false]
        exact readByte_writeByte_same a v hm.2

/-- A write keeps the canonical form. -/
theorem writeByte_wfAbove (a : Nat) (v : Byte) :
    ∀ {b : Nat} {m : List Host.Cell}, b ≤ a → Memory.wfAbove b m = true → Memory.wfAbove b (writeByte m a v) = true
  | b, [], hb, _ => by
    by_cases hv : v = unlistedByte <;> simp [writeByte, Memory.wfAbove, hv, hb]
  | b, (k, w) :: m, hb, hm => by
    have hm' := hm
    simp only [Memory.wfAbove, Bool.and_eq_true, decide_eq_true_eq] at hm
    unfold writeByte
    split
    · next hk =>
      split
      · exact hm'
      · next hv =>
        simp only [Memory.wfAbove, Bool.and_eq_true, decide_eq_true_eq]
        exact ⟨⟨hb, hv⟩, ⟨by omega, hm.1.2⟩, hm.2⟩
    · split
      · next hk =>
        subst hk
        split
        · exact wfAbove_mono (by omega) hm.2
        · next hv =>
          simp only [Memory.wfAbove, Bool.and_eq_true, decide_eq_true_eq]
          exact ⟨⟨hb, hv⟩, hm.2⟩
      · simp only [Memory.wfAbove, Bool.and_eq_true, decide_eq_true_eq]
        exact ⟨hm.1, writeByte_wfAbove a v (by omega) hm.2⟩

theorem writeByte_wf {m : List Host.Cell} (a : Nat) (v : Byte) (h : Memory.wf m = true) :
    Memory.wf (writeByte m a v) = true := writeByte_wfAbove a v (Nat.zero_le _) h

theorem writeWord_wf {m : List Host.Cell} (a : Nat) (v : Word) (h : Memory.wf m = true) :
    Memory.wf (writeWord m a v) = true :=
  writeByte_wf _ _ (writeByte_wf _ _ (writeByte_wf _ _ (writeByte_wf _ _ h)))

theorem writeBuffer_wf {m : List Host.Cell} (base v : Nat) (h : Memory.wf m = true) :
    ∀ n, Memory.wf (writeBuffer m base v n) = true
  | 0 => h
  | n + 1 => writeWord_wf _ _ (writeBuffer_wf base v h n)

theorem filter_wfAbove (p : Host.Cell → Bool) :
    ∀ {b : Nat} {m : List Host.Cell}, Memory.wfAbove b m = true → Memory.wfAbove b (m.filter p) = true
  | _, [], _ => rfl
  | b, (k, w) :: m, hm => by
    simp only [Memory.wfAbove, Bool.and_eq_true, decide_eq_true_eq] at hm
    have ih := filter_wfAbove p hm.2
    by_cases hp : p (k, w) = true
    · simp only [List.filter_cons_of_pos hp, Memory.wfAbove, Bool.and_eq_true, decide_eq_true_eq]
      exact ⟨hm.1, ih⟩
    · rw [List.filter_cons_of_neg hp]
      exact wfAbove_mono (by omega) ih

theorem clearRange_wf {m : List Host.Cell} (lo hi : Nat) (h : Memory.wf m = true) :
    Memory.wf (clearRange m lo hi) = true := filter_wfAbove _ h

/-- A cleared byte reads as an unlisted one; every other byte is as it was. -/
theorem readByte_clearRange (lo hi a : Nat) :
    ∀ m : List Host.Cell,
      readByte (clearRange m lo hi) a = if lo ≤ a ∧ a < hi then unlistedByte else readByte m a
  | [] => by simp [clearRange, readByte]
  | (k, w) :: m => by
    have ih := readByte_clearRange lo hi a m
    unfold clearRange at ih ⊢
    by_cases hp : (decide (k < lo) || decide (hi ≤ k)) = true
    · rw [List.filter_cons, if_pos hp]
      simp only [Bool.or_eq_true, decide_eq_true_eq] at hp
      by_cases hk : k = a
      · subst hk
        have : ¬ (lo ≤ k ∧ k < hi) := by omega
        simp [readByte, this]
      · simp [readByte, hk, ih]
    · rw [List.filter_cons, if_neg hp, ih]
      simp only [Bool.or_eq_true, decide_eq_true_eq] at hp
      by_cases hk : k = a
      · subst hk
        have : lo ≤ k ∧ k < hi := by omega
        simp [this]
      · simp [readByte, hk]

/-- A word write leaves every byte outside its four alone. -/
theorem readByte_writeWord_other {a a' : Nat} (m : List Host.Cell) (v : Word) (h : a' < a ∨ a + 4 ≤ a') :
    readByte (writeWord m a v) a' = readByte m a' := by
  unfold writeWord
  rw [readByte_writeByte_other _ (by omega), readByte_writeByte_other _ (by omega),
    readByte_writeByte_other _ (by omega), readByte_writeByte_other _ (by omega)]

theorem readWord_congr {m m' : List Host.Cell} {a : Nat} (h : ∀ i < 4, readByte m (a + i) = readByte m' (a + i)) :
    readWord m a = readWord m' a := by
  have h0 := h 0 (by omega)
  have h1 := h 1 (by omega)
  have h2 := h 2 (by omega)
  have h3 := h 3 (by omega)
  simp only [Nat.add_zero] at h0
  simp only [readWord, h0, h1, h2, h3]

theorem readWord_writeWord_other {a a' : Nat} (m : List Host.Cell) (v : Word) (h : a' + 4 ≤ a ∨ a + 4 ≤ a') :
    readWord (writeWord m a v) a' = readWord m a' :=
  readWord_congr fun i hi => readByte_writeWord_other m v (by omega)

/-- R83: a word written to canonical memory is read back. -/
theorem readWord_writeWord_same {m : List Host.Cell} (a : Nat) (v : Word) (h : Memory.wf m = true) :
    readWord (writeWord m a v) a = v := by
  have h1 := writeByte_wf a (v.extractLsb' 0 8) h
  have h2 := writeByte_wf (a + 1) (v.extractLsb' 8 8) h1
  have h3 := writeByte_wf (a + 2) (v.extractLsb' 16 8) h2
  have e3 : readByte (writeWord m a v) (a + 3) = v.extractLsb' 24 8 := readByte_writeByte_same _ _ h3
  have e2 : readByte (writeWord m a v) (a + 2) = v.extractLsb' 16 8 := by
    unfold writeWord
    rw [readByte_writeByte_other _ (by omega)]
    exact readByte_writeByte_same _ _ h2
  have e1 : readByte (writeWord m a v) (a + 1) = v.extractLsb' 8 8 := by
    unfold writeWord
    rw [readByte_writeByte_other _ (by omega), readByte_writeByte_other _ (by omega)]
    exact readByte_writeByte_same _ _ h1
  have e0 : readByte (writeWord m a v) a = v.extractLsb' 0 8 := by
    unfold writeWord
    rw [readByte_writeByte_other _ (by omega), readByte_writeByte_other _ (by omega),
      readByte_writeByte_other _ (by omega)]
    exact readByte_writeByte_same _ _ h
  unfold readWord
  rw [e3, e2, e1, e0]
  apply BitVec.eq_of_getLsbD_eq
  intro i hi
  simp only [BitVec.getLsbD_append, BitVec.getLsbD_extractLsb']
  by_cases c0 : i < 8
  · simp [c0]
  · by_cases c1 : i - 8 < 8
    · simp [c0, c1, show 8 + (i - 8) = i by omega]
    · by_cases c2 : i - 8 - 8 < 8
      · simp [c0, c1, c2, show 16 + (i - 8 - 8) = i by omega]
      · simp [c0, c1, c2, show i - 8 - 8 - 8 < 8 by omega, show 24 + (i - 8 - 8 - 8) = i by omega]

/-- A buffer write leaves every byte outside the buffer alone. -/
theorem readByte_writeBuffer_other (m : List Host.Cell) (base v a : Nat) :
    ∀ n, a < base ∨ base + 4 * n ≤ a → readByte (writeBuffer m base v n) a = readByte m a
  | 0, _ => rfl
  | n + 1, h => by
    unfold writeBuffer
    rw [readByte_writeWord_other _ _ (by omega)]
    exact readByte_writeBuffer_other m base v a n (by omega)

/-- R50: the words of a buffer write hold the integer's words. -/
theorem readWord_writeBuffer {m : List Host.Cell} (base v : Nat) (h : Memory.wf m = true) (k : Nat) :
    ∀ n, k < n → readWord (writeBuffer m base v n) (base + 4 * k) = BitVec.ofNat 32 (v / 2 ^ (32 * k))
  | 0, hk => by omega
  | n + 1, hk => by
    unfold writeBuffer
    by_cases e : k = n
    · subst e; exact readWord_writeWord_same _ _ (writeBuffer_wf base v h _)
    · rw [readWord_writeWord_other _ _ (by omega)]
      exact readWord_writeBuffer base v h k n (by omega)

theorem bufferValue_congr {m m' : List Host.Cell} {base : Nat} :
    ∀ n, (∀ k < n, readWord m (base + 4 * k) = readWord m' (base + 4 * k)) → bufferValue m base n = bufferValue m' base n
  | 0, _ => rfl
  | n + 1, h => by
    unfold bufferValue
    rw [bufferValue_congr n fun k hk => h k (by omega), h n (by omega)]

theorem bufferValue_lt (m : List Host.Cell) (base : Nat) : ∀ n, bufferValue m base n < 2 ^ (32 * n)
  | 0 => by simp [bufferValue]
  | n + 1 => by
    have ih := bufferValue_lt m base n
    have hw : (readWord m (base + 4 * n)).toNat + 1 ≤ 2 ^ 32 := (readWord m (base + 4 * n)).isLt
    have := Nat.mul_le_mul_right (2 ^ (32 * n)) hw
    rw [show 32 * (n + 1) = 32 + 32 * n by ring, pow_add, bufferValue]
    nlinarith

/-- R49, R84: buffer bit `p` is bit `p mod 32` of the word `p div 32`. -/
theorem testBit_bufferValue (m : List Host.Cell) (base p : Nat) :
    ∀ n, (bufferValue m base n).testBit p =
      (decide (p < 32 * n) && (readWord m (base + 4 * (p / 32))).getLsbD (p % 32))
  | 0 => by simp [bufferValue]
  | n + 1 => by
    have e : bufferValue m base (n + 1) = 2 ^ (32 * n) * (readWord m (base + 4 * n)).toNat + bufferValue m base n := by
      rw [bufferValue, Nat.mul_comm, Nat.add_comm]
    rw [e, Nat.testBit_two_pow_mul_add _ (bufferValue_lt m base n), testBit_bufferValue m base p n]
    by_cases h : p < 32 * n
    · simp [h, show p < 32 * (n + 1) by omega]
    · by_cases h2 : p < 32 * (n + 1)
      · simp [h, h2, show p / 32 = n by omega, show p - 32 * n = p % 32 by omega, BitVec.testBit_toNat]
      · simp only [h, h2, if_false, decide_false, Bool.false_and]
        exact Nat.testBit_lt_two_pow
          (lt_of_lt_of_le (readWord m (base + 4 * n)).isLt (Nat.pow_le_pow_right (by decide) (by omega)))

/-- R50: a buffer written with an integer holds it, as far as the buffer is long. -/
theorem bufferValue_writeBuffer {m : List Host.Cell} (base v : Nat) (h : Memory.wf m = true) (n : Nat) :
    bufferValue (writeBuffer m base v n) base n = v % 2 ^ (32 * n) := by
  suffices H : ∀ j ≤ n, bufferValue (writeBuffer m base v n) base j = v % 2 ^ (32 * j) from H n le_rfl
  intro j
  induction j with
  | zero => intro _; simp [bufferValue, Nat.mod_one]
  | succ j ih =>
    intro hj
    rw [bufferValue, ih (by omega), readWord_writeBuffer base v h j n (by omega), BitVec.toNat_ofNat,
      show 32 * (j + 1) = 32 * j + 32 by ring, pow_add, Nat.mod_mul]
    ring

/-- Clearing a buffer makes it hold 0. -/
theorem bufferValue_clearRange (m : List Host.Cell) (base n : Nat) :
    bufferValue (clearRange m base (base + 4 * n)) base n = 0 := by
  suffices H : ∀ j ≤ n, bufferValue (clearRange m base (base + 4 * n)) base j = 0 from H n le_rfl
  intro j
  induction j with
  | zero => intro _; rfl
  | succ j ih =>
    intro hj
    have z : ∀ i < 4, readByte (clearRange m base (base + 4 * n)) (base + 4 * j + i) = unlistedByte := by
      intro i hi
      rw [readByte_clearRange]
      have : base ≤ base + 4 * j + i ∧ base + 4 * j + i < base + 4 * n := by omega
      simp [this]
    have e : readWord (clearRange m base (base + 4 * n)) (base + 4 * j) = readWord [] (base + 4 * j) :=
      readWord_congr fun i hi => (z i hi).trans rfl
    rw [bufferValue, ih (by omega), e]
    have : readWord [] (base + 4 * j) = 0 := by simp [readWord, readByte, unlistedByte]
    simp [this]

end Sys2Proof.Machine
end

