-- ==== Sys2Proof/Laws/Operands.lean ====
section
/-! SUPPORT. What each operand depends on: two states that agree there have the same operand. -/

namespace Sys2Proof.Machine

theorem irlen_congr {s t : State} (h : t.mem = s.mem) (d : Nat) : irlen t d = irlen s d := by
  simp only [irlen, descIrlen, h]

theorem irlenSum_congr {s t : State} (h : t.mem = s.mem) (lo : Nat) : ∀ n, irlenSum t lo n = irlenSum s lo n
  | 0 => rfl
  | n + 1 => by simp only [irlenSum, irlenSum_congr h lo n, irlen_congr h]

theorem devCount_congr {s t : State} (h : t.chainN = s.chainN) : devCount t = devCount s := by
  simp only [devCount, h]

theorem irlenBefore_congr {s t : State} (h : t.mem = s.mem) (d : Nat) : irlenBefore t d = irlenBefore s d :=
  irlenSum_congr h 0 d

theorem irlenAfter_congr {s t : State} (h : t.mem = s.mem) (hn : t.chainN = s.chainN) (d : Nat) :
    irlenAfter t d = irlenAfter s d := by
  simp only [irlenAfter, devCount_congr hn, irlenSum_congr h]

theorem totalIR_congr {s t : State} (h : t.mem = s.mem) (hn : t.chainN = s.chainN) : totalIR t = totalIR s := by
  simp only [totalIR, devCount_congr hn, irlenSum_congr h]

theorem padIR_congr {s t : State} (h : t.mem = s.mem) (hn : t.chainN = s.chainN) (d : Nat) (b : Bits) :
    padIR t d b = padIR s d b := by
  simp only [padIR, irlenBefore_congr h, irlenAfter_congr h hn]

theorem padDR_congr {s t : State} (hn : t.chainN = s.chainN) (d : Nat) (b : Bits) : padDR t d b = padDR s d b := by
  simp only [padDR, devsBefore, devsAfter, devCount_congr hn]

theorem stripIR_congr {s t : State} (h : t.mem = s.mem) (hn : t.chainN = s.chainN) (d : Nat) (o : Bits) :
    stripIR t d o = stripIR s d o := by
  simp only [stripIR, irlenBefore_congr h, irlenAfter_congr h hn]

theorem stripDR_congr {s t : State} (hn : t.chainN = s.chainN) (d : Nat) (o : Bits) : stripDR t d o = stripDR s d o := by
  simp only [stripDR, devsBefore, devsAfter, devCount_congr hn]

theorem ownDrLength_congr {s t : State} (hn : t.chainN = s.chainN) (d l : Nat) :
    ownDrLength t d l = ownDrLength s d l := by
  simp only [ownDrLength, devsBefore, devsAfter, devCount_congr hn]

theorem probeReq_congr {s t : State} (hc : t.cfg = s.cfg) : probeReq t = probeReq s := by
  simp only [probeReq, hc]

theorem txArg_congr {s t : State} (h : t.mem = s.mem) (hc : t.cfg = s.cfg) (ht : t.txLen = s.txLen) :
    txArg t = txArg s := by
  simp only [txArg, txOperand, txVal, txCount, h, hc, ht]

theorem badDescriptor_congr {s t : State} (h : t.mem = s.mem) (hc : t.cfg = s.cfg) :
    ∀ n, badDescriptor t n = badDescriptor s n
  | 0 => rfl
  | n + 1 => by simp only [badDescriptor, badDescriptor_congr h hc n, irlen_congr h, hc]

/-- R180: no bad descriptor means every IR length is 1 to MAX_IRLEN. -/
theorem badDescriptor_false (s : State) :
    ∀ n, badDescriptor s n = false ↔ ∀ i < n, 1 ≤ irlen s i ∧ irlen s i ≤ s.cfg.maxIrlen
  | 0 => by simp [badDescriptor]
  | n + 1 => by
    simp only [badDescriptor, Bool.or_eq_false_iff, badDescriptor_false s n, decide_eq_false_iff_not]
    constructor
    · rintro ⟨⟨a, b⟩, c⟩ i hi
      rcases Nat.lt_succ_iff_lt_or_eq.mp hi with h | rfl
      · exact a i h
      · omega
    · intro h
      have hn := h n (by omega)
      exact ⟨⟨fun i hi => h i (by omega), by omega⟩, by omega⟩

/-- The bounds R7 puts on well-formed parameters. -/
theorem Params_wf_bounds {p : Config.Params} (h : p.wf = true) :
    1 ≤ p.maxDevices ∧ p.maxDevices ≤ 256 ∧ 2 ≤ p.maxIrlen ∧ p.maxIrlen ≤ 32 ∧ p.maxIrlen ≤ p.maxSeqBits ∧
      p.maxSeqBits ≤ 32768 ∧ 1 ≤ p.drProbeMax ∧ 32 * p.seqWords = p.maxSeqBits ∧ p.seqWords ≤ 1024 := by
  simp only [Config.Params.wf, Bool.and_eq_true, decide_eq_true_eq] at h
  simp only [Config.Params.seqWords]
  omega

end Sys2Proof.Machine
end

