-- ==== Sys2Proof/Laws/State.lean ====
section
/-! SUPPORT. One lemma per field per update of State, each true by rfl, so that no proof unfolds a record update. -/

namespace Sys2Proof.Machine

/-! ### clearResults (R61) -/

@[simp] theorem clearResults_cfg (s : State) : (clearResults s).cfg = s.cfg := rfl
@[simp] theorem clearResults_phase (s : State) : (clearResults s).phase = s.phase := rfl
@[simp] theorem clearResults_pos (s : State) : (clearResults s).pos = s.pos := rfl
@[simp] theorem clearResults_reply (s : State) : (clearResults s).reply = s.reply := rfl
@[simp] theorem clearResults_cmd (s : State) : (clearResults s).cmd = s.cmd := rfl
@[simp] theorem clearResults_txLen (s : State) : (clearResults s).txLen = s.txLen := rfl
@[simp] theorem clearResults_idle (s : State) : (clearResults s).idle = s.idle := rfl
@[simp] theorem clearResults_expect (s : State) : (clearResults s).expect = s.expect := rfl
@[simp] theorem clearResults_chainN (s : State) : (clearResults s).chainN = s.chainN := rfl
@[simp] theorem clearResults_configured (s : State) : (clearResults s).configured = s.configured := rfl
@[simp] theorem clearResults_boolFlag (s : State) : (clearResults s).boolFlag = false := rfl
@[simp] theorem clearResults_overrun (s : State) : (clearResults s).overrun = false := rfl
@[simp] theorem clearResults_detail (s : State) : (clearResults s).detail = .none := rfl
@[simp] theorem clearResults_rxLen (s : State) : (clearResults s).rxLen = 0 := rfl
@[simp] theorem clearResults_result (s : State) : (clearResults s).result = 0 := rfl
@[simp] theorem clearResults_mmInstr (s : State) : (clearResults s).mmInstr = 0 := rfl
@[simp] theorem clearResults_mmObserved (s : State) : (clearResults s).mmObserved = 0 := rfl
@[simp] theorem clearResults_mmExpected (s : State) : (clearResults s).mmExpected = 0 := rfl
@[simp] theorem clearResults_survIr (s : State) : (clearResults s).survIr = 0 := rfl
@[simp] theorem clearResults_survStat (s : State) : (clearResults s).survStat = .none := rfl
@[simp] theorem clearResults_survDrlen (s : State) : (clearResults s).survDrlen = 0 := rfl
@[simp] theorem clearResults_dvIdcode (s : State) : (clearResults s).dvIdcode = 0 := rfl
@[simp] theorem clearResults_dvIrlen (s : State) : (clearResults s).dvIrlen = 0 := rfl
@[simp] theorem clearResults_dvIrlenBefore (s : State) : (clearResults s).dvIrlenBefore = 0 := rfl
@[simp] theorem clearResults_dvIrlenAfter (s : State) : (clearResults s).dvIrlenAfter = 0 := rfl
@[simp] theorem clearResults_dvDevsBefore (s : State) : (clearResults s).dvDevsBefore = 0 := rfl
@[simp] theorem clearResults_dvDevsAfter (s : State) : (clearResults s).dvDevsAfter = 0 := rfl
@[simp] theorem clearResults_mem (s : State) : (clearResults s).mem = clearRange s.mem rxBase (rxBase + 4 * s.cfg.seqWords) := rfl
@[simp] theorem clearResults_survDev (s : State) : (clearResults s).survDev = s.survDev := rfl
@[simp] theorem clearResults_survNext (s : State) : (clearResults s).survNext = s.survNext := rfl
@[simp] theorem clearResults_survCount (s : State) : (clearResults s).survCount = s.survCount := rfl
@[simp] theorem clearResults_inbox (s : State) : (clearResults s).inbox = s.inbox := rfl
@[simp] theorem clearResults_driver (s : State) : (clearResults s).driver = s.driver := rfl
@[simp] theorem clearResults_issued (s : State) : (clearResults s).issued = s.issued := rfl
@[simp] theorem clearResults_readData (s : State) : (clearResults s).readData = s.readData := rfl

/-! ### accept (R60) -/

@[simp] theorem accept_cfg (w : Word) (s : State) : (accept w s).cfg = s.cfg := rfl
@[simp] theorem accept_phase (w : Word) (s : State) : (accept w s).phase = .running w := rfl
@[simp] theorem accept_pos (w : Word) (s : State) : (accept w s).pos = .start := rfl
@[simp] theorem accept_reply (w : Word) (s : State) : (accept w s).reply = .ok [] := rfl
@[simp] theorem accept_cmd (w : Word) (s : State) : (accept w s).cmd = w := rfl
@[simp] theorem accept_txLen (w : Word) (s : State) : (accept w s).txLen = s.txLen := rfl
@[simp] theorem accept_idle (w : Word) (s : State) : (accept w s).idle = s.idle := rfl
@[simp] theorem accept_expect (w : Word) (s : State) : (accept w s).expect = s.expect := rfl
@[simp] theorem accept_chainN (w : Word) (s : State) : (accept w s).chainN = s.chainN := rfl
@[simp] theorem accept_configured (w : Word) (s : State) : (accept w s).configured = s.configured := rfl
@[simp] theorem accept_boolFlag (w : Word) (s : State) : (accept w s).boolFlag = false := rfl
@[simp] theorem accept_overrun (w : Word) (s : State) : (accept w s).overrun = false := rfl
@[simp] theorem accept_detail (w : Word) (s : State) : (accept w s).detail = .none := rfl
@[simp] theorem accept_rxLen (w : Word) (s : State) : (accept w s).rxLen = 0 := rfl
@[simp] theorem accept_result (w : Word) (s : State) : (accept w s).result = 0 := rfl
@[simp] theorem accept_mmInstr (w : Word) (s : State) : (accept w s).mmInstr = 0 := rfl
@[simp] theorem accept_mmObserved (w : Word) (s : State) : (accept w s).mmObserved = 0 := rfl
@[simp] theorem accept_mmExpected (w : Word) (s : State) : (accept w s).mmExpected = 0 := rfl
@[simp] theorem accept_survIr (w : Word) (s : State) : (accept w s).survIr = 0 := rfl
@[simp] theorem accept_survStat (w : Word) (s : State) : (accept w s).survStat = .none := rfl
@[simp] theorem accept_survDrlen (w : Word) (s : State) : (accept w s).survDrlen = 0 := rfl
@[simp] theorem accept_dvIdcode (w : Word) (s : State) : (accept w s).dvIdcode = 0 := rfl
@[simp] theorem accept_dvIrlen (w : Word) (s : State) : (accept w s).dvIrlen = 0 := rfl
@[simp] theorem accept_dvIrlenBefore (w : Word) (s : State) : (accept w s).dvIrlenBefore = 0 := rfl
@[simp] theorem accept_dvIrlenAfter (w : Word) (s : State) : (accept w s).dvIrlenAfter = 0 := rfl
@[simp] theorem accept_dvDevsBefore (w : Word) (s : State) : (accept w s).dvDevsBefore = 0 := rfl
@[simp] theorem accept_dvDevsAfter (w : Word) (s : State) : (accept w s).dvDevsAfter = 0 := rfl
@[simp] theorem accept_mem (w : Word) (s : State) : (accept w s).mem = clearRange s.mem rxBase (rxBase + 4 * s.cfg.seqWords) := rfl
@[simp] theorem accept_survDev (w : Word) (s : State) : (accept w s).survDev = s.survDev := rfl
@[simp] theorem accept_survNext (w : Word) (s : State) : (accept w s).survNext = s.survNext := rfl
@[simp] theorem accept_survCount (w : Word) (s : State) : (accept w s).survCount = s.survCount := rfl
@[simp] theorem accept_inbox (w : Word) (s : State) : (accept w s).inbox = s.inbox := rfl
@[simp] theorem accept_driver (w : Word) (s : State) : (accept w s).driver = s.driver := rfl
@[simp] theorem accept_issued (w : Word) (s : State) : (accept w s).issued = s.issued := rfl
@[simp] theorem accept_readData (w : Word) (s : State) : (accept w s).readData = s.readData := rfl

/-! ### finish (R62) -/

@[simp] theorem finish_cfg (s : State) : (finish s).cfg = s.cfg := rfl
@[simp] theorem finish_phase (s : State) : (finish s).phase = .idle := rfl
@[simp] theorem finish_pos (s : State) : (finish s).pos = .start := rfl
@[simp] theorem finish_reply (s : State) : (finish s).reply = .ok [] := rfl
@[simp] theorem finish_cmd (s : State) : (finish s).cmd = s.cmd := rfl
@[simp] theorem finish_txLen (s : State) : (finish s).txLen = s.txLen := rfl
@[simp] theorem finish_idle (s : State) : (finish s).idle = s.idle := rfl
@[simp] theorem finish_expect (s : State) : (finish s).expect = s.expect := rfl
@[simp] theorem finish_chainN (s : State) : (finish s).chainN = s.chainN := rfl
@[simp] theorem finish_configured (s : State) : (finish s).configured = s.configured := rfl
@[simp] theorem finish_boolFlag (s : State) : (finish s).boolFlag = s.boolFlag := rfl
@[simp] theorem finish_overrun (s : State) : (finish s).overrun = s.overrun := rfl
@[simp] theorem finish_detail (s : State) : (finish s).detail = s.detail := rfl
@[simp] theorem finish_rxLen (s : State) : (finish s).rxLen = s.rxLen := rfl
@[simp] theorem finish_result (s : State) : (finish s).result = s.result := rfl
@[simp] theorem finish_mmInstr (s : State) : (finish s).mmInstr = s.mmInstr := rfl
@[simp] theorem finish_mmObserved (s : State) : (finish s).mmObserved = s.mmObserved := rfl
@[simp] theorem finish_mmExpected (s : State) : (finish s).mmExpected = s.mmExpected := rfl
@[simp] theorem finish_survIr (s : State) : (finish s).survIr = s.survIr := rfl
@[simp] theorem finish_survStat (s : State) : (finish s).survStat = s.survStat := rfl
@[simp] theorem finish_survDrlen (s : State) : (finish s).survDrlen = s.survDrlen := rfl
@[simp] theorem finish_dvIdcode (s : State) : (finish s).dvIdcode = s.dvIdcode := rfl
@[simp] theorem finish_dvIrlen (s : State) : (finish s).dvIrlen = s.dvIrlen := rfl
@[simp] theorem finish_dvIrlenBefore (s : State) : (finish s).dvIrlenBefore = s.dvIrlenBefore := rfl
@[simp] theorem finish_dvIrlenAfter (s : State) : (finish s).dvIrlenAfter = s.dvIrlenAfter := rfl
@[simp] theorem finish_dvDevsBefore (s : State) : (finish s).dvDevsBefore = s.dvDevsBefore := rfl
@[simp] theorem finish_dvDevsAfter (s : State) : (finish s).dvDevsAfter = s.dvDevsAfter := rfl
@[simp] theorem finish_mem (s : State) : (finish s).mem = s.mem := rfl
@[simp] theorem finish_survDev (s : State) : (finish s).survDev = s.survDev := rfl
@[simp] theorem finish_survNext (s : State) : (finish s).survNext = s.survNext := rfl
@[simp] theorem finish_survCount (s : State) : (finish s).survCount = s.survCount := rfl
@[simp] theorem finish_inbox (s : State) : (finish s).inbox = s.inbox := rfl
@[simp] theorem finish_driver (s : State) : (finish s).driver = s.driver := rfl
@[simp] theorem finish_issued (s : State) : (finish s).issued = s.issued := rfl
@[simp] theorem finish_readData (s : State) : (finish s).readData = s.readData := rfl

/-! ### raise (R287) -/

@[simp] theorem raise_cfg (e : Detail) (s : State) : (raise e s).cfg = s.cfg := rfl
@[simp] theorem raise_phase (e : Detail) (s : State) : (raise e s).phase = .idle := rfl
@[simp] theorem raise_pos (e : Detail) (s : State) : (raise e s).pos = .start := rfl
@[simp] theorem raise_reply (e : Detail) (s : State) : (raise e s).reply = .ok [] := rfl
@[simp] theorem raise_cmd (e : Detail) (s : State) : (raise e s).cmd = s.cmd := rfl
@[simp] theorem raise_txLen (e : Detail) (s : State) : (raise e s).txLen = s.txLen := rfl
@[simp] theorem raise_idle (e : Detail) (s : State) : (raise e s).idle = s.idle := rfl
@[simp] theorem raise_expect (e : Detail) (s : State) : (raise e s).expect = s.expect := rfl
@[simp] theorem raise_chainN (e : Detail) (s : State) : (raise e s).chainN = s.chainN := rfl
@[simp] theorem raise_configured (e : Detail) (s : State) : (raise e s).configured = s.configured := rfl
@[simp] theorem raise_boolFlag (e : Detail) (s : State) : (raise e s).boolFlag = s.boolFlag := rfl
@[simp] theorem raise_overrun (e : Detail) (s : State) : (raise e s).overrun = s.overrun := rfl
@[simp] theorem raise_detail (e : Detail) (s : State) : (raise e s).detail = e := rfl
@[simp] theorem raise_rxLen (e : Detail) (s : State) : (raise e s).rxLen = s.rxLen := rfl
@[simp] theorem raise_result (e : Detail) (s : State) : (raise e s).result = s.result := rfl
@[simp] theorem raise_mmInstr (e : Detail) (s : State) : (raise e s).mmInstr = s.mmInstr := rfl
@[simp] theorem raise_mmObserved (e : Detail) (s : State) : (raise e s).mmObserved = s.mmObserved := rfl
@[simp] theorem raise_mmExpected (e : Detail) (s : State) : (raise e s).mmExpected = s.mmExpected := rfl
@[simp] theorem raise_survIr (e : Detail) (s : State) : (raise e s).survIr = s.survIr := rfl
@[simp] theorem raise_survStat (e : Detail) (s : State) : (raise e s).survStat = s.survStat := rfl
@[simp] theorem raise_survDrlen (e : Detail) (s : State) : (raise e s).survDrlen = s.survDrlen := rfl
@[simp] theorem raise_dvIdcode (e : Detail) (s : State) : (raise e s).dvIdcode = s.dvIdcode := rfl
@[simp] theorem raise_dvIrlen (e : Detail) (s : State) : (raise e s).dvIrlen = s.dvIrlen := rfl
@[simp] theorem raise_dvIrlenBefore (e : Detail) (s : State) : (raise e s).dvIrlenBefore = s.dvIrlenBefore := rfl
@[simp] theorem raise_dvIrlenAfter (e : Detail) (s : State) : (raise e s).dvIrlenAfter = s.dvIrlenAfter := rfl
@[simp] theorem raise_dvDevsBefore (e : Detail) (s : State) : (raise e s).dvDevsBefore = s.dvDevsBefore := rfl
@[simp] theorem raise_dvDevsAfter (e : Detail) (s : State) : (raise e s).dvDevsAfter = s.dvDevsAfter := rfl
@[simp] theorem raise_mem (e : Detail) (s : State) : (raise e s).mem = s.mem := rfl
@[simp] theorem raise_survDev (e : Detail) (s : State) : (raise e s).survDev = s.survDev := rfl
@[simp] theorem raise_survNext (e : Detail) (s : State) : (raise e s).survNext = s.survNext := rfl
@[simp] theorem raise_survCount (e : Detail) (s : State) : (raise e s).survCount = s.survCount := rfl
@[simp] theorem raise_inbox (e : Detail) (s : State) : (raise e s).inbox = s.inbox := rfl
@[simp] theorem raise_driver (e : Detail) (s : State) : (raise e s).driver = s.driver := rfl
@[simp] theorem raise_issued (e : Detail) (s : State) : (raise e s).issued = s.issued := rfl
@[simp] theorem raise_readData (e : Detail) (s : State) : (raise e s).readData = s.readData := rfl

/-! ### raiseMismatch (R283) -/

@[simp] theorem raiseMismatch_cfg (b : Bits) (c : Int) (s : State) : (raiseMismatch b c s).cfg = s.cfg := rfl
@[simp] theorem raiseMismatch_phase (b : Bits) (c : Int) (s : State) : (raiseMismatch b c s).phase = .idle := rfl
@[simp] theorem raiseMismatch_pos (b : Bits) (c : Int) (s : State) : (raiseMismatch b c s).pos = .start := rfl
@[simp] theorem raiseMismatch_reply (b : Bits) (c : Int) (s : State) : (raiseMismatch b c s).reply = .ok [] := rfl
@[simp] theorem raiseMismatch_cmd (b : Bits) (c : Int) (s : State) : (raiseMismatch b c s).cmd = s.cmd := rfl
@[simp] theorem raiseMismatch_txLen (b : Bits) (c : Int) (s : State) : (raiseMismatch b c s).txLen = s.txLen := rfl
@[simp] theorem raiseMismatch_idle (b : Bits) (c : Int) (s : State) : (raiseMismatch b c s).idle = s.idle := rfl
@[simp] theorem raiseMismatch_expect (b : Bits) (c : Int) (s : State) : (raiseMismatch b c s).expect = s.expect := rfl
@[simp] theorem raiseMismatch_chainN (b : Bits) (c : Int) (s : State) : (raiseMismatch b c s).chainN = s.chainN := rfl
@[simp] theorem raiseMismatch_configured (b : Bits) (c : Int) (s : State) : (raiseMismatch b c s).configured = s.configured := rfl
@[simp] theorem raiseMismatch_boolFlag (b : Bits) (c : Int) (s : State) : (raiseMismatch b c s).boolFlag = s.boolFlag := rfl
@[simp] theorem raiseMismatch_overrun (b : Bits) (c : Int) (s : State) : (raiseMismatch b c s).overrun = s.overrun := rfl
@[simp] theorem raiseMismatch_detail (b : Bits) (c : Int) (s : State) : (raiseMismatch b c s).detail = .drLength := rfl
@[simp] theorem raiseMismatch_rxLen (b : Bits) (c : Int) (s : State) : (raiseMismatch b c s).rxLen = s.rxLen := rfl
@[simp] theorem raiseMismatch_result (b : Bits) (c : Int) (s : State) : (raiseMismatch b c s).result = s.result := rfl
@[simp] theorem raiseMismatch_mmInstr (b : Bits) (c : Int) (s : State) : (raiseMismatch b c s).mmInstr = zext32 (toValue b) := rfl
@[simp] theorem raiseMismatch_mmObserved (b : Bits) (c : Int) (s : State) : (raiseMismatch b c s).mmObserved = enc32 c := rfl
@[simp] theorem raiseMismatch_mmExpected (b : Bits) (c : Int) (s : State) : (raiseMismatch b c s).mmExpected = s.expect := rfl
@[simp] theorem raiseMismatch_survIr (b : Bits) (c : Int) (s : State) : (raiseMismatch b c s).survIr = s.survIr := rfl
@[simp] theorem raiseMismatch_survStat (b : Bits) (c : Int) (s : State) : (raiseMismatch b c s).survStat = s.survStat := rfl
@[simp] theorem raiseMismatch_survDrlen (b : Bits) (c : Int) (s : State) : (raiseMismatch b c s).survDrlen = s.survDrlen := rfl
@[simp] theorem raiseMismatch_dvIdcode (b : Bits) (c : Int) (s : State) : (raiseMismatch b c s).dvIdcode = s.dvIdcode := rfl
@[simp] theorem raiseMismatch_dvIrlen (b : Bits) (c : Int) (s : State) : (raiseMismatch b c s).dvIrlen = s.dvIrlen := rfl
@[simp] theorem raiseMismatch_dvIrlenBefore (b : Bits) (c : Int) (s : State) : (raiseMismatch b c s).dvIrlenBefore = s.dvIrlenBefore := rfl
@[simp] theorem raiseMismatch_dvIrlenAfter (b : Bits) (c : Int) (s : State) : (raiseMismatch b c s).dvIrlenAfter = s.dvIrlenAfter := rfl
@[simp] theorem raiseMismatch_dvDevsBefore (b : Bits) (c : Int) (s : State) : (raiseMismatch b c s).dvDevsBefore = s.dvDevsBefore := rfl
@[simp] theorem raiseMismatch_dvDevsAfter (b : Bits) (c : Int) (s : State) : (raiseMismatch b c s).dvDevsAfter = s.dvDevsAfter := rfl
@[simp] theorem raiseMismatch_mem (b : Bits) (c : Int) (s : State) : (raiseMismatch b c s).mem = s.mem := rfl
@[simp] theorem raiseMismatch_survDev (b : Bits) (c : Int) (s : State) : (raiseMismatch b c s).survDev = s.survDev := rfl
@[simp] theorem raiseMismatch_survNext (b : Bits) (c : Int) (s : State) : (raiseMismatch b c s).survNext = s.survNext := rfl
@[simp] theorem raiseMismatch_survCount (b : Bits) (c : Int) (s : State) : (raiseMismatch b c s).survCount = s.survCount := rfl
@[simp] theorem raiseMismatch_inbox (b : Bits) (c : Int) (s : State) : (raiseMismatch b c s).inbox = s.inbox := rfl
@[simp] theorem raiseMismatch_driver (b : Bits) (c : Int) (s : State) : (raiseMismatch b c s).driver = s.driver := rfl
@[simp] theorem raiseMismatch_issued (b : Bits) (c : Int) (s : State) : (raiseMismatch b c s).issued = s.issued := rfl
@[simp] theorem raiseMismatch_readData (b : Bits) (c : Int) (s : State) : (raiseMismatch b c s).readData = s.readData := rfl

/-! ### issue (R95) -/

@[simp] theorem issue_cfg (p : Pos) (req : ScanReq) (s : State) : (issue p req s).cfg = s.cfg := rfl
@[simp] theorem issue_phase (p : Pos) (req : ScanReq) (s : State) : (issue p req s).phase = .waitScan req := rfl
@[simp] theorem issue_pos (p : Pos) (req : ScanReq) (s : State) : (issue p req s).pos = p := rfl
@[simp] theorem issue_reply (p : Pos) (req : ScanReq) (s : State) : (issue p req s).reply = s.reply := rfl
@[simp] theorem issue_cmd (p : Pos) (req : ScanReq) (s : State) : (issue p req s).cmd = s.cmd := rfl
@[simp] theorem issue_txLen (p : Pos) (req : ScanReq) (s : State) : (issue p req s).txLen = s.txLen := rfl
@[simp] theorem issue_idle (p : Pos) (req : ScanReq) (s : State) : (issue p req s).idle = s.idle := rfl
@[simp] theorem issue_expect (p : Pos) (req : ScanReq) (s : State) : (issue p req s).expect = s.expect := rfl
@[simp] theorem issue_chainN (p : Pos) (req : ScanReq) (s : State) : (issue p req s).chainN = s.chainN := rfl
@[simp] theorem issue_configured (p : Pos) (req : ScanReq) (s : State) : (issue p req s).configured = s.configured := rfl
@[simp] theorem issue_boolFlag (p : Pos) (req : ScanReq) (s : State) : (issue p req s).boolFlag = s.boolFlag := rfl
@[simp] theorem issue_overrun (p : Pos) (req : ScanReq) (s : State) : (issue p req s).overrun = s.overrun := rfl
@[simp] theorem issue_detail (p : Pos) (req : ScanReq) (s : State) : (issue p req s).detail = s.detail := rfl
@[simp] theorem issue_rxLen (p : Pos) (req : ScanReq) (s : State) : (issue p req s).rxLen = s.rxLen := rfl
@[simp] theorem issue_result (p : Pos) (req : ScanReq) (s : State) : (issue p req s).result = s.result := rfl
@[simp] theorem issue_mmInstr (p : Pos) (req : ScanReq) (s : State) : (issue p req s).mmInstr = s.mmInstr := rfl
@[simp] theorem issue_mmObserved (p : Pos) (req : ScanReq) (s : State) : (issue p req s).mmObserved = s.mmObserved := rfl
@[simp] theorem issue_mmExpected (p : Pos) (req : ScanReq) (s : State) : (issue p req s).mmExpected = s.mmExpected := rfl
@[simp] theorem issue_survIr (p : Pos) (req : ScanReq) (s : State) : (issue p req s).survIr = s.survIr := rfl
@[simp] theorem issue_survStat (p : Pos) (req : ScanReq) (s : State) : (issue p req s).survStat = s.survStat := rfl
@[simp] theorem issue_survDrlen (p : Pos) (req : ScanReq) (s : State) : (issue p req s).survDrlen = s.survDrlen := rfl
@[simp] theorem issue_dvIdcode (p : Pos) (req : ScanReq) (s : State) : (issue p req s).dvIdcode = s.dvIdcode := rfl
@[simp] theorem issue_dvIrlen (p : Pos) (req : ScanReq) (s : State) : (issue p req s).dvIrlen = s.dvIrlen := rfl
@[simp] theorem issue_dvIrlenBefore (p : Pos) (req : ScanReq) (s : State) : (issue p req s).dvIrlenBefore = s.dvIrlenBefore := rfl
@[simp] theorem issue_dvIrlenAfter (p : Pos) (req : ScanReq) (s : State) : (issue p req s).dvIrlenAfter = s.dvIrlenAfter := rfl
@[simp] theorem issue_dvDevsBefore (p : Pos) (req : ScanReq) (s : State) : (issue p req s).dvDevsBefore = s.dvDevsBefore := rfl
@[simp] theorem issue_dvDevsAfter (p : Pos) (req : ScanReq) (s : State) : (issue p req s).dvDevsAfter = s.dvDevsAfter := rfl
@[simp] theorem issue_mem (p : Pos) (req : ScanReq) (s : State) : (issue p req s).mem = s.mem := rfl
@[simp] theorem issue_survDev (p : Pos) (req : ScanReq) (s : State) : (issue p req s).survDev = s.survDev := rfl
@[simp] theorem issue_survNext (p : Pos) (req : ScanReq) (s : State) : (issue p req s).survNext = s.survNext := rfl
@[simp] theorem issue_survCount (p : Pos) (req : ScanReq) (s : State) : (issue p req s).survCount = s.survCount := rfl
@[simp] theorem issue_inbox (p : Pos) (req : ScanReq) (s : State) : (issue p req s).inbox = s.inbox := rfl
@[simp] theorem issue_driver (p : Pos) (req : ScanReq) (s : State) : (issue p req s).driver = s.driver := rfl
@[simp] theorem issue_issued (p : Pos) (req : ScanReq) (s : State) : (issue p req s).issued = s.issued + 1 := rfl
@[simp] theorem issue_readData (p : Pos) (req : ScanReq) (s : State) : (issue p req s).readData = s.readData := rfl

/-! ### putCapture (R50, R62) -/

@[simp] theorem putCapture_cfg (n : Nat) (r : Bits) (s : State) : (putCapture n r s).cfg = s.cfg := rfl
@[simp] theorem putCapture_phase (n : Nat) (r : Bits) (s : State) : (putCapture n r s).phase = s.phase := rfl
@[simp] theorem putCapture_pos (n : Nat) (r : Bits) (s : State) : (putCapture n r s).pos = s.pos := rfl
@[simp] theorem putCapture_reply (n : Nat) (r : Bits) (s : State) : (putCapture n r s).reply = s.reply := rfl
@[simp] theorem putCapture_cmd (n : Nat) (r : Bits) (s : State) : (putCapture n r s).cmd = s.cmd := rfl
@[simp] theorem putCapture_txLen (n : Nat) (r : Bits) (s : State) : (putCapture n r s).txLen = s.txLen := rfl
@[simp] theorem putCapture_idle (n : Nat) (r : Bits) (s : State) : (putCapture n r s).idle = s.idle := rfl
@[simp] theorem putCapture_expect (n : Nat) (r : Bits) (s : State) : (putCapture n r s).expect = s.expect := rfl
@[simp] theorem putCapture_chainN (n : Nat) (r : Bits) (s : State) : (putCapture n r s).chainN = s.chainN := rfl
@[simp] theorem putCapture_configured (n : Nat) (r : Bits) (s : State) : (putCapture n r s).configured = s.configured := rfl
@[simp] theorem putCapture_boolFlag (n : Nat) (r : Bits) (s : State) : (putCapture n r s).boolFlag = s.boolFlag := rfl
@[simp] theorem putCapture_overrun (n : Nat) (r : Bits) (s : State) : (putCapture n r s).overrun = s.overrun := rfl
@[simp] theorem putCapture_detail (n : Nat) (r : Bits) (s : State) : (putCapture n r s).detail = s.detail := rfl
@[simp] theorem putCapture_rxLen (n : Nat) (r : Bits) (s : State) : (putCapture n r s).rxLen = BitVec.ofNat 16 n := rfl
@[simp] theorem putCapture_result (n : Nat) (r : Bits) (s : State) : (putCapture n r s).result = zext32 (toValue r) := rfl
@[simp] theorem putCapture_mmInstr (n : Nat) (r : Bits) (s : State) : (putCapture n r s).mmInstr = s.mmInstr := rfl
@[simp] theorem putCapture_mmObserved (n : Nat) (r : Bits) (s : State) : (putCapture n r s).mmObserved = s.mmObserved := rfl
@[simp] theorem putCapture_mmExpected (n : Nat) (r : Bits) (s : State) : (putCapture n r s).mmExpected = s.mmExpected := rfl
@[simp] theorem putCapture_survIr (n : Nat) (r : Bits) (s : State) : (putCapture n r s).survIr = s.survIr := rfl
@[simp] theorem putCapture_survStat (n : Nat) (r : Bits) (s : State) : (putCapture n r s).survStat = s.survStat := rfl
@[simp] theorem putCapture_survDrlen (n : Nat) (r : Bits) (s : State) : (putCapture n r s).survDrlen = s.survDrlen := rfl
@[simp] theorem putCapture_dvIdcode (n : Nat) (r : Bits) (s : State) : (putCapture n r s).dvIdcode = s.dvIdcode := rfl
@[simp] theorem putCapture_dvIrlen (n : Nat) (r : Bits) (s : State) : (putCapture n r s).dvIrlen = s.dvIrlen := rfl
@[simp] theorem putCapture_dvIrlenBefore (n : Nat) (r : Bits) (s : State) : (putCapture n r s).dvIrlenBefore = s.dvIrlenBefore := rfl
@[simp] theorem putCapture_dvIrlenAfter (n : Nat) (r : Bits) (s : State) : (putCapture n r s).dvIrlenAfter = s.dvIrlenAfter := rfl
@[simp] theorem putCapture_dvDevsBefore (n : Nat) (r : Bits) (s : State) : (putCapture n r s).dvDevsBefore = s.dvDevsBefore := rfl
@[simp] theorem putCapture_dvDevsAfter (n : Nat) (r : Bits) (s : State) : (putCapture n r s).dvDevsAfter = s.dvDevsAfter := rfl
@[simp] theorem putCapture_mem (n : Nat) (r : Bits) (s : State) : (putCapture n r s).mem = writeBuffer s.mem rxBase (toValue r) s.cfg.seqWords := rfl
@[simp] theorem putCapture_survDev (n : Nat) (r : Bits) (s : State) : (putCapture n r s).survDev = s.survDev := rfl
@[simp] theorem putCapture_survNext (n : Nat) (r : Bits) (s : State) : (putCapture n r s).survNext = s.survNext := rfl
@[simp] theorem putCapture_survCount (n : Nat) (r : Bits) (s : State) : (putCapture n r s).survCount = s.survCount := rfl
@[simp] theorem putCapture_inbox (n : Nat) (r : Bits) (s : State) : (putCapture n r s).inbox = s.inbox := rfl
@[simp] theorem putCapture_driver (n : Nat) (r : Bits) (s : State) : (putCapture n r s).driver = s.driver := rfl
@[simp] theorem putCapture_issued (n : Nat) (r : Bits) (s : State) : (putCapture n r s).issued = s.issued := rfl
@[simp] theorem putCapture_readData (n : Nat) (r : Bits) (s : State) : (putCapture n r s).readData = s.readData := rfl

/-! ### emitRecord (R262) -/

@[simp] theorem emitRecord_cfg (e : Detail) (c : Int) (s : State) : (emitRecord e c s).cfg = s.cfg := rfl
@[simp] theorem emitRecord_phase (e : Detail) (c : Int) (s : State) : (emitRecord e c s).phase = .waitAck := rfl
@[simp] theorem emitRecord_pos (e : Detail) (c : Int) (s : State) : (emitRecord e c s).pos = .record := rfl
@[simp] theorem emitRecord_reply (e : Detail) (c : Int) (s : State) : (emitRecord e c s).reply = .ok [] := rfl
@[simp] theorem emitRecord_cmd (e : Detail) (c : Int) (s : State) : (emitRecord e c s).cmd = s.cmd := rfl
@[simp] theorem emitRecord_txLen (e : Detail) (c : Int) (s : State) : (emitRecord e c s).txLen = s.txLen := rfl
@[simp] theorem emitRecord_idle (e : Detail) (c : Int) (s : State) : (emitRecord e c s).idle = s.idle := rfl
@[simp] theorem emitRecord_expect (e : Detail) (c : Int) (s : State) : (emitRecord e c s).expect = s.expect := rfl
@[simp] theorem emitRecord_chainN (e : Detail) (c : Int) (s : State) : (emitRecord e c s).chainN = s.chainN := rfl
@[simp] theorem emitRecord_configured (e : Detail) (c : Int) (s : State) : (emitRecord e c s).configured = s.configured := rfl
@[simp] theorem emitRecord_boolFlag (e : Detail) (c : Int) (s : State) : (emitRecord e c s).boolFlag = s.boolFlag := rfl
@[simp] theorem emitRecord_overrun (e : Detail) (c : Int) (s : State) : (emitRecord e c s).overrun = s.overrun := rfl
@[simp] theorem emitRecord_detail (e : Detail) (c : Int) (s : State) : (emitRecord e c s).detail = s.detail := rfl
@[simp] theorem emitRecord_rxLen (e : Detail) (c : Int) (s : State) : (emitRecord e c s).rxLen = s.rxLen := rfl
@[simp] theorem emitRecord_result (e : Detail) (c : Int) (s : State) : (emitRecord e c s).result = s.result := rfl
@[simp] theorem emitRecord_mmInstr (e : Detail) (c : Int) (s : State) : (emitRecord e c s).mmInstr = s.mmInstr := rfl
@[simp] theorem emitRecord_mmObserved (e : Detail) (c : Int) (s : State) : (emitRecord e c s).mmObserved = s.mmObserved := rfl
@[simp] theorem emitRecord_mmExpected (e : Detail) (c : Int) (s : State) : (emitRecord e c s).mmExpected = s.mmExpected := rfl
@[simp] theorem emitRecord_survIr (e : Detail) (c : Int) (s : State) : (emitRecord e c s).survIr = zext32 s.survNext := rfl
@[simp] theorem emitRecord_survStat (e : Detail) (c : Int) (s : State) : (emitRecord e c s).survStat = e := rfl
@[simp] theorem emitRecord_survDrlen (e : Detail) (c : Int) (s : State) : (emitRecord e c s).survDrlen = if e = .none then enc32 c else 0 := rfl
@[simp] theorem emitRecord_dvIdcode (e : Detail) (c : Int) (s : State) : (emitRecord e c s).dvIdcode = s.dvIdcode := rfl
@[simp] theorem emitRecord_dvIrlen (e : Detail) (c : Int) (s : State) : (emitRecord e c s).dvIrlen = s.dvIrlen := rfl
@[simp] theorem emitRecord_dvIrlenBefore (e : Detail) (c : Int) (s : State) : (emitRecord e c s).dvIrlenBefore = s.dvIrlenBefore := rfl
@[simp] theorem emitRecord_dvIrlenAfter (e : Detail) (c : Int) (s : State) : (emitRecord e c s).dvIrlenAfter = s.dvIrlenAfter := rfl
@[simp] theorem emitRecord_dvDevsBefore (e : Detail) (c : Int) (s : State) : (emitRecord e c s).dvDevsBefore = s.dvDevsBefore := rfl
@[simp] theorem emitRecord_dvDevsAfter (e : Detail) (c : Int) (s : State) : (emitRecord e c s).dvDevsAfter = s.dvDevsAfter := rfl
@[simp] theorem emitRecord_mem (e : Detail) (c : Int) (s : State) : (emitRecord e c s).mem = s.mem := rfl
@[simp] theorem emitRecord_survDev (e : Detail) (c : Int) (s : State) : (emitRecord e c s).survDev = s.survDev := rfl
@[simp] theorem emitRecord_survNext (e : Detail) (c : Int) (s : State) : (emitRecord e c s).survNext = s.survNext := rfl
@[simp] theorem emitRecord_survCount (e : Detail) (c : Int) (s : State) : (emitRecord e c s).survCount = s.survCount := rfl
@[simp] theorem emitRecord_inbox (e : Detail) (c : Int) (s : State) : (emitRecord e c s).inbox = s.inbox := rfl
@[simp] theorem emitRecord_driver (e : Detail) (c : Int) (s : State) : (emitRecord e c s).driver = s.driver := rfl
@[simp] theorem emitRecord_issued (e : Detail) (c : Int) (s : State) : (emitRecord e c s).issued = s.issued := rfl
@[simp] theorem emitRecord_readData (e : Detail) (c : Int) (s : State) : (emitRecord e c s).readData = s.readData := rfl

/-! ### surveyFinish (R260) -/

@[simp] theorem surveyFinish_cfg (s : State) : (surveyFinish s).cfg = s.cfg := rfl
@[simp] theorem surveyFinish_phase (s : State) : (surveyFinish s).phase = .idle := rfl
@[simp] theorem surveyFinish_pos (s : State) : (surveyFinish s).pos = .start := rfl
@[simp] theorem surveyFinish_reply (s : State) : (surveyFinish s).reply = .ok [] := rfl
@[simp] theorem surveyFinish_cmd (s : State) : (surveyFinish s).cmd = s.cmd := rfl
@[simp] theorem surveyFinish_txLen (s : State) : (surveyFinish s).txLen = s.txLen := rfl
@[simp] theorem surveyFinish_idle (s : State) : (surveyFinish s).idle = s.idle := rfl
@[simp] theorem surveyFinish_expect (s : State) : (surveyFinish s).expect = s.expect := rfl
@[simp] theorem surveyFinish_chainN (s : State) : (surveyFinish s).chainN = s.chainN := rfl
@[simp] theorem surveyFinish_configured (s : State) : (surveyFinish s).configured = s.configured := rfl
@[simp] theorem surveyFinish_boolFlag (s : State) : (surveyFinish s).boolFlag = s.boolFlag := rfl
@[simp] theorem surveyFinish_overrun (s : State) : (surveyFinish s).overrun = s.overrun := rfl
@[simp] theorem surveyFinish_detail (s : State) : (surveyFinish s).detail = s.detail := rfl
@[simp] theorem surveyFinish_rxLen (s : State) : (surveyFinish s).rxLen = s.rxLen := rfl
@[simp] theorem surveyFinish_result (s : State) : (surveyFinish s).result = zext32 s.survCount := rfl
@[simp] theorem surveyFinish_mmInstr (s : State) : (surveyFinish s).mmInstr = s.mmInstr := rfl
@[simp] theorem surveyFinish_mmObserved (s : State) : (surveyFinish s).mmObserved = s.mmObserved := rfl
@[simp] theorem surveyFinish_mmExpected (s : State) : (surveyFinish s).mmExpected = s.mmExpected := rfl
@[simp] theorem surveyFinish_survIr (s : State) : (surveyFinish s).survIr = s.survIr := rfl
@[simp] theorem surveyFinish_survStat (s : State) : (surveyFinish s).survStat = s.survStat := rfl
@[simp] theorem surveyFinish_survDrlen (s : State) : (surveyFinish s).survDrlen = s.survDrlen := rfl
@[simp] theorem surveyFinish_dvIdcode (s : State) : (surveyFinish s).dvIdcode = s.dvIdcode := rfl
@[simp] theorem surveyFinish_dvIrlen (s : State) : (surveyFinish s).dvIrlen = s.dvIrlen := rfl
@[simp] theorem surveyFinish_dvIrlenBefore (s : State) : (surveyFinish s).dvIrlenBefore = s.dvIrlenBefore := rfl
@[simp] theorem surveyFinish_dvIrlenAfter (s : State) : (surveyFinish s).dvIrlenAfter = s.dvIrlenAfter := rfl
@[simp] theorem surveyFinish_dvDevsBefore (s : State) : (surveyFinish s).dvDevsBefore = s.dvDevsBefore := rfl
@[simp] theorem surveyFinish_dvDevsAfter (s : State) : (surveyFinish s).dvDevsAfter = s.dvDevsAfter := rfl
@[simp] theorem surveyFinish_mem (s : State) : (surveyFinish s).mem = s.mem := rfl
@[simp] theorem surveyFinish_survDev (s : State) : (surveyFinish s).survDev = s.survDev := rfl
@[simp] theorem surveyFinish_survNext (s : State) : (surveyFinish s).survNext = s.survNext := rfl
@[simp] theorem surveyFinish_survCount (s : State) : (surveyFinish s).survCount = s.survCount := rfl
@[simp] theorem surveyFinish_inbox (s : State) : (surveyFinish s).inbox = s.inbox := rfl
@[simp] theorem surveyFinish_driver (s : State) : (surveyFinish s).driver = s.driver := rfl
@[simp] theorem surveyFinish_issued (s : State) : (surveyFinish s).issued = s.issued := rfl
@[simp] theorem surveyFinish_readData (s : State) : (surveyFinish s).readData = s.readData := rfl

end Sys2Proof.Machine
end

