-- ==== Sys2Proof/Laws/Ops.lean ====
section
/-! SUPPORT. Inversion lemmas: once for each shared operation, everything it can do. -/

namespace Sys2Proof.Machine

/-- R286: with no failing check the command goes on; otherwise it raises the first. -/
theorem guarded_cases {checks : List (Bool × Detail)} {s : State} {k : Result} :
    (firstError checks = none ∧ guarded checks s k = k) ∨
    (∃ e, firstError checks = some e ∧ guarded checks s k = .next (raise e s)) := by
  unfold guarded
  cases h : firstError checks with
  | none => exact .inl ⟨rfl, rfl⟩
  | some e => exact .inr ⟨e, rfl, rfl⟩

theorem firstError_none {checks : List (Bool × Detail)} :
    firstError checks = none ↔ ∀ c ∈ checks, c.1 = false := by
  induction checks with
  | nil => simp [firstError]
  | cons c rest ih =>
    obtain ⟨b, e⟩ := c
    cases b <;> simp [firstError, ih]

/-- R97: a reply either ends the command with its error or hands over the capture. -/
theorem onReply_cases {s : State} {k : Bits → Result} :
    (∃ e, s.reply = .failed e ∧ onReply s k = .next (raise e s)) ∨ (∃ o, s.reply = .ok o ∧ onReply s k = k o) := by
  unfold onReply
  cases h : s.reply with
  | failed e => exact .inl ⟨e, rfl, rfl⟩
  | ok o => exact .inr ⟨o, rfl, rfl⟩

/-- R187: a probe either ends the command with its error or hands over the length. -/
theorem onProbe_cases {s : State} {k : Nat → Result} :
    (∃ e, probeOutcome s = .error e ∧ onProbe s k = .next (raise e s)) ∨
    (∃ l, probeOutcome s = .ok l ∧ onProbe s k = k l) := by
  unfold onProbe
  cases h : probeOutcome s with
  | error e => exact .inl ⟨e, rfl, rfl⟩
  | ok l => exact .inr ⟨l, rfl, rfl⟩

/-- R234: the comparison raises at the probe, raises the mismatch, or goes on with the observed length. -/
theorem compareWidth_cases {d : Nat} {s : State} {k : Int → Result} :
    (∃ e, probeOutcome s = .error e ∧ compareWidth d s k = .next (raise e s)) ∨
    (∃ l, probeOutcome s = .ok l ∧
      ((ownDrLength s d l ≠ (s.expect.toNat : Int) ∧
          compareWidth d s k = .next (raiseMismatch (txArg s) (ownDrLength s d l) s)) ∨
       (ownDrLength s d l = (s.expect.toNat : Int) ∧ compareWidth d s k = k (ownDrLength s d l)))) := by
  unfold compareWidth
  rcases onProbe_cases (s := s) (k := fun l => if ownDrLength s d l ≠ (s.expect.toNat : Int) then
      .next (raiseMismatch (txArg s) (ownDrLength s d l) s) else k (ownDrLength s d l)) with ⟨e, he, h⟩ | ⟨l, hl, h⟩
  · exact .inl ⟨e, he, h⟩
  · refine .inr ⟨l, hl, ?_⟩
    rw [h]
    by_cases c : ownDrLength s d l = (s.expect.toNat : Int)
    · exact .inr ⟨c, by simp [c]⟩
    · exact .inl ⟨c, by simp [c]⟩

/-- R260: the loop head writes the next value's IR or ends the survey; it cannot fail. -/
theorem surveyLoop_cases (s : State) :
    (s.survNext < 2 ^ irlen s s.survDev ∧ surveyLoop s =
      .next (issue .ir (scanIR (padIR s s.survDev (bitsOf s.survNext (irlen s s.survDev))) false) s)) ∨
    (2 ^ irlen s s.survDev ≤ s.survNext ∧ surveyLoop s = .next (surveyFinish s)) := by
  unfold surveyLoop
  by_cases h : s.survNext < 2 ^ irlen s s.survDev
  · exact .inl ⟨h, by simp [h, fromValue_of_lt h]⟩
  · exact .inr ⟨by omega, by simp [h]⟩

/-- R263: an acknowledgement stops, goes on, or is ignored. -/
theorem acknowledge_cases (w : Word) (s : State) :
    (w.getLsbD 1 = true ∧ acknowledge w s =
      .next (surveyFinish { s with phase := .running s.cmd, survCount := s.survCount + 1 })) ∨
    (w.getLsbD 1 = false ∧ w.getLsbD 0 = true ∧ acknowledge w s =
      surveyLoop { s with phase := .running s.cmd, survCount := s.survCount + 1, survNext := s.survNext + 1 }) ∨
    (w.getLsbD 1 = false ∧ w.getLsbD 0 = false ∧ acknowledge w s = .next s) := by
  unfold acknowledge
  cases h1 : w.getLsbD 1 <;> cases h0 : w.getLsbD 0 <;> simp

/-- R95, R321: a response is taken in WaitScan and changes nothing in any other phase. -/
theorem takeResponse_cases (r : Response) (s : State) :
    (∃ req, s.phase = .waitScan req ∧
      takeResponse r s = { s with phase := .running s.cmd, reply := replyOf req r }) ∨
    ((∀ req, s.phase ≠ .waitScan req) ∧ takeResponse r s = s) := by
  unfold takeResponse
  cases h : s.phase with
  | waitScan req => exact .inl ⟨req, rfl, rfl⟩
  | idle => exact .inr ⟨fun _ => by simp, rfl⟩
  | running w => exact .inr ⟨fun _ => by simp, rfl⟩
  | waitAck => exact .inr ⟨fun _ => by simp, rfl⟩

/-- R95, R321: a response that arrives as an input is taken where it answers the waiting request, and is discarded otherwise. -/
theorem portResponse_cases (serial : Nat) (r : Response) (s : State) :
    (∃ req, serial = s.issued ∧ s.phase = .waitScan req ∧
      portResponse serial r s =
        { s with phase := .running s.cmd, reply := replyOf req r, driver := bypassedDriver req s }) ∨
    ((serial ≠ s.issued ∨ ∀ req, s.phase ≠ .waitScan req) ∧ portResponse serial r s = s) := by
  unfold portResponse
  by_cases hs : serial = s.issued
  · cases h : s.phase with
    | waitScan req => exact .inl ⟨req, hs, rfl, by simp [hs, takeResponse]⟩
    | idle => exact .inr ⟨.inr fun _ => by simp, by simp⟩
    | running w => exact .inr ⟨.inr fun _ => by simp, by simp⟩
    | waitAck => exact .inr ⟨.inr fun _ => by simp, by simp⟩
  · exact .inr ⟨.inl hs, by simp [hs]⟩

/-- R94, R97: what a command sees of a response is a capture of the scan's length (or none), or a TransportError. -/
theorem replyOf_fits (req : ScanReq) (r : Response) : replyFits req (replyOf req r) = true := by
  cases r with
  | transportError => simp [replyOf, replyFits]
  | ok data =>
    cases hc : req.capture
    · simp [replyOf, replyFits, hc]
    · by_cases hl : data.length = req.bits.length <;> simp [replyOf, replyFits, hc, hl]

/-- R95: while a request waits, the attached driver answers, and the response is taken, or nothing happens. -/
theorem driverMove_cases (req : ScanReq) (s : State) :
    (driverAnswer s.issued s.driver req = none ∧ driverMove req s = s) ∨
    (∃ r drv, driverAnswer s.issued s.driver req = some (r, drv) ∧
      driverMove req s = takeResponse r { s with driver := drv }) := by
  unfold driverMove
  cases h : driverAnswer s.issued s.driver req with
  | none => exact .inl ⟨rfl, rfl⟩
  | some p => exact .inr ⟨p.1, p.2, rfl, rfl⟩

/-- R63: a write while BUSY = 1 is dropped and sets OVERRUN; otherwise it takes effect. -/
theorem unlessBusy_cases {s : State} {k : Result} :
    (s.busy = true ∧ unlessBusy s k = .next { s with overrun := true }) ∨ (s.busy = false ∧ unlessBusy s k = k) := by
  unfold unlessBusy
  cases h : s.busy <;> simp

/-- R187: the probe's verdict is a length below M, or one of two errors. -/
theorem evaluateProbe_cases (m : Nat) (o : Bits) :
    (leadingZeros o = 0 ∧ evaluateProbe m o = .error .probeNoEdge) ∨
    (leadingZeros o ≠ 0 ∧ (m < leadingZeros o ∨ (o.drop (leadingZeros o)).take m ≠ ones m) ∧
      evaluateProbe m o = .error .probeInconsistent) ∨
    (leadingZeros o ≠ 0 ∧ leadingZeros o ≤ m ∧ (o.drop (leadingZeros o)).take m = ones m ∧
      evaluateProbe m o = .ok (m - leadingZeros o)) := by
  unfold evaluateProbe
  by_cases h0 : leadingZeros o = 0
  · exact .inl ⟨h0, by simp [h0]⟩
  · by_cases h1 : leadingZeros o > m ∨ (o.drop (leadingZeros o)).take m ≠ ones m
    · exact .inr (.inl ⟨h0, h1, by simp only [h0, if_false, h1, if_true]⟩)
    · refine .inr (.inr ⟨h0, ?_, ?_, by simp only [h0, if_false, h1, if_false]⟩)
      · omega
      · by_contra c; exact h1 (.inr c)

end Sys2Proof.Machine
end

