-- ==== Sys2Proof/Laws/PerInstr.lean ====
section
/-! SUPPORT. One lemma per command: its encoding lies in its row of the opcode table (R129), the row's mask read on the word
giving the row's match value. -/

namespace Sys2Proof.Laws.EncodesItsRow

/-- The word of a well-formed command matches its row of the opcode table. -/
def Statement (i : Instr) : Prop := i.wf = true → encode i &&& rowMask = rowMatch i

/-- The row is matched for every DEV value, one opcode at a time. -/
theorem of_opcode (op d : Nat) (hop : op < 32) (hd : d < 256) :
    BitVec.ofNat 32 ((d <<< 8) ||| op) &&& rowMask = BitVec.ofNat 32 op := by
  apply BitVec.eq_of_toNat_eq
  have h : ∀ o < 32, ∀ e < 256, ((e <<< 8) ||| o) &&& 0xFFFF00FF = o := by decide +kernel
  have h2 : (d <<< 8) ||| op < 2 ^ 32 := by
    apply Nat.or_lt_two_pow
    · rw [Nat.shiftLeft_eq]; omega
    · omega
  rw [BitVec.toNat_and, BitVec.toNat_ofNat, BitVec.toNat_ofNat, Nat.mod_eq_of_lt h2, Nat.mod_eq_of_lt (by omega)]
  exact h op hop d hd

theorem loadChain (d : Nat) : Statement (.loadChain d) := fun h => of_opcode _ d (by simp [opcodeOf]) (of_decide_eq_true h)
theorem clearChain (d : Nat) : Statement (.clearChain d) := fun h => of_opcode _ d (by simp [opcodeOf]) (of_decide_eq_true h)
theorem deviceCount (d : Nat) : Statement (.deviceCount d) := fun h => of_opcode _ d (by simp [opcodeOf]) (of_decide_eq_true h)
theorem totalIrLength (d : Nat) : Statement (.totalIrLength d) := fun h => of_opcode _ d (by simp [opcodeOf]) (of_decide_eq_true h)
theorem totalDrLength (d : Nat) : Statement (.totalDrLength d) := fun h => of_opcode _ d (by simp [opcodeOf]) (of_decide_eq_true h)
theorem deviceView (d : Nat) : Statement (.deviceView d) := fun h => of_opcode _ d (by simp [opcodeOf]) (of_decide_eq_true h)
theorem writeIr (d : Nat) : Statement (.writeIr d) := fun h => of_opcode _ d (by simp [opcodeOf]) (of_decide_eq_true h)
theorem readWriteIr (d : Nat) : Statement (.readWriteIr d) := fun h => of_opcode _ d (by simp [opcodeOf]) (of_decide_eq_true h)
theorem verifyIrCapture (d : Nat) : Statement (.verifyIrCapture d) := fun h => of_opcode _ d (by simp [opcodeOf]) (of_decide_eq_true h)
theorem writeDr (d : Nat) : Statement (.writeDr d) := fun h => of_opcode _ d (by simp [opcodeOf]) (of_decide_eq_true h)
theorem readWriteDr (d : Nat) : Statement (.readWriteDr d) := fun h => of_opcode _ d (by simp [opcodeOf]) (of_decide_eq_true h)
theorem currentDrLength (d : Nat) : Statement (.currentDrLength d) := fun h => of_opcode _ d (by simp [opcodeOf]) (of_decide_eq_true h)
theorem verifyDrLength (d : Nat) : Statement (.verifyDrLength d) := fun h => of_opcode _ d (by simp [opcodeOf]) (of_decide_eq_true h)
theorem checkDr (d : Nat) : Statement (.checkDr d) := fun h => of_opcode _ d (by simp [opcodeOf]) (of_decide_eq_true h)
theorem survey (d : Nat) : Statement (.survey d) := fun h => of_opcode _ d (by simp [opcodeOf]) (of_decide_eq_true h)

end Sys2Proof.Laws.EncodesItsRow
end

