-- ==== Sys2Proof/Tests/Slice0.lean ====
section
/-! SUPPORT. The model's own tests: the well-formedness smoke, a word of each row of the opcode table, one step per command on
the vectors of 95_test_vectors.md, and a witness for each obligation's hypotheses. -/

namespace Sys2Proof.Tests

open Sys2Proof.Machine

/-! ### Helpers -/

/-- One field of the next state, if there is one. -/
def next? {α : Type} (f : State → α) (r : Result) : Option α :=
  match r with
  | .next t => some (f t)
  | .fault _ => none
  | .refused _ => none

/-- What the host sees of a completed command. -/
def report (s : State) : Word × Word × Word := (statusWord s, s.result, s.rxLen.setWidth 32)

/-- The request on the port. -/
def request (s : State) : Option ScanReq :=
  match s.phase with
  | .waitScan req => some req
  | _ => none

/-- Small parameters, with M = 8 as the vectors that write a probe in full have it. -/
def small : Config.Params := { maxDevices := 3, maxIrlen := 8, maxSeqBits := 32, drProbeMax := 8 }

/-- A sequence from its bits, most significant first. -/
def bits (l : List Nat) : Bits := l.map (· == 1)

/-- Chain A's descriptor table. -/
def tableA : List Host.Cell :=
  [(0x3000, 0x01), (0x3003, 0x10), (0x3004, 5), (0x3008, 0xDF), (0x3009, 0xF0), (0x300A, 0xEE), (0x300B, 0x1B), (0x300C, 4)]

/-- Chain B's descriptor table. -/
def tableB : List Host.Cell := [(0x3004, 2), (0x300C, 8), (0x3014, 5)]

/-- Chain A loaded, with an operand. -/
def chainA (tx : Byte) (n : Half) : State :=
  { State.reset with cfg := small, configured := true, chainN := 2, txLen := n, mem := (0x1000, tx) :: tableA }

/-- Chain B loaded, with an operand. -/
def chainB (tx : Byte) (n : Half) : State :=
  { State.reset with cfg := small, configured := true, chainN := 3, txLen := n, mem := (0x1000, tx) :: tableB }

/-- A command accepted and about to run. -/
def running (i : Instr) (s : State) : State := accept (encode i) s

/-- A command past `pos`, its scan answered. -/
def answered (i : Instr) (p : Pos) (o : Bits) (s : State) : State :=
  { running i s with pos := p, reply := .ok o }

/-- A command waiting for the scan of `pos`. -/
def waiting (i : Instr) (p : Pos) (req : ScanReq) (s : State) : State := issue p req (running i s)

/-! ### Well-formedness smoke -/

theorem test_dev_255_is_well_formed : (Instr.survey 255).wf = true := by decide
theorem test_dev_256_is_ill_formed : (Instr.survey 256).wf = false := by decide
theorem test_reference_parameters_are_well_formed : Config.reference.wf = true := by decide
theorem test_no_devices_is_ill_formed : ({ small with maxDevices := 0 } : Config.Params).wf = false := by decide
theorem test_257_devices_is_ill_formed : ({ small with maxDevices := 257 } : Config.Params).wf = false := by decide
theorem test_irlen_1_is_ill_formed : ({ small with maxIrlen := 1 } : Config.Params).wf = false := by decide
theorem test_irlen_33_is_ill_formed : ({ small with maxIrlen := 33, maxSeqBits := 64 } : Config.Params).wf = false := by decide
theorem test_half_a_word_is_ill_formed : ({ small with maxSeqBits := 48 } : Config.Params).wf = false := by decide
theorem test_empty_buffer_is_ill_formed : ({ small with maxSeqBits := 0 } : Config.Params).wf = false := by decide
theorem test_huge_buffer_is_ill_formed : ({ small with maxSeqBits := 32800 } : Config.Params).wf = false := by decide
theorem test_no_probe_is_ill_formed : ({ small with drProbeMax := 0 } : Config.Params).wf = false := by decide

/-! ### Decoding: words written from R120 and R122 (RES1, DEV, RES0, OP) -/

theorem test_decode_load_chain : decode 0b0000000000000000_11111111_000_00001#32 = .command (.loadChain 255) := by decide
theorem test_decode_clear_chain : decode 0b0000000000000000_00000000_000_00010#32 = .command (.clearChain 0) := by decide
theorem test_decode_device_count : decode 0b0000000000000000_00000000_000_00011#32 = .command (.deviceCount 0) := by decide
theorem test_decode_total_ir_length : decode 0b0000000000000000_00000000_000_00100#32 = .command (.totalIrLength 0) := by decide
theorem test_decode_total_dr_length : decode 0b0000000000000000_00000000_000_00101#32 = .command (.totalDrLength 0) := by decide
theorem test_decode_device_view : decode 0b0000000000000000_00000001_000_00110#32 = .command (.deviceView 1) := by decide
theorem test_decode_write_ir : decode 0b0000000000000000_00000001_000_01000#32 = .command (.writeIr 1) := by decide
theorem test_decode_read_write_ir : decode 0b0000000000000000_00000010_000_01001#32 = .command (.readWriteIr 2) := by decide
theorem test_decode_verify_ir_capture : decode 0b0000000000000000_00000011_000_01010#32 = .command (.verifyIrCapture 3) := by decide
theorem test_decode_write_dr : decode 0b0000000000000000_10000000_000_10000#32 = .command (.writeDr 128) := by decide
theorem test_decode_read_write_dr : decode 0b0000000000000000_00000001_000_10001#32 = .command (.readWriteDr 1) := by decide
theorem test_decode_current_dr_length : decode 0b0000000000000000_00000001_000_10010#32 = .command (.currentDrLength 1) := by decide
theorem test_decode_verify_dr_length : decode 0b0000000000000000_00000001_000_10011#32 = .command (.verifyDrLength 1) := by decide
theorem test_decode_check_dr : decode 0b0000000000000000_00000001_000_10100#32 = .command (.checkDr 1) := by decide
theorem test_decode_survey : decode 0b0000000000000000_00000101_000_11000#32 = .command (.survey 5) := by decide
theorem test_reserved_opcode : decodeTableWord 32 0x07 = none ∧ decodeTableWord 32 0x28 = none := by decide
theorem test_encode_device_view : encode (.deviceView 1) = 0x00000106#32 := by decide

/-! ### One step per command (the vector's name in 95_test_vectors.md before each) -/

/-- K1. -/
theorem test_load_chain : next? report (step (running (.loadChain 0)
    { chainA 0 0 with configured := false })) = some (0x2, 0, 0) := by decide
/-- K3. -/
theorem test_load_chain_zero_irlen : next? report (step (running (.loadChain 0)
    { State.reset with cfg := small, chainN := 2, mem := [(0x3004, 5)] })) = some (0x00160200, 0, 0) := by decide
/-- K7, K9: the chain is gone, whatever was loaded. -/
theorem test_clear_chain : next? report (step (running (.clearChain 0) (chainA 0 0))) = some (0, 0, 0) := by decide
/-- K8's last command. -/
theorem test_device_count : next? report (step (running (.deviceCount 0) (chainA 0 0))) = some (0x2, 2, 0) := by decide
/-- K6, by the fetch the host uses. -/
theorem test_device_count_without_chain :
    next? report (step (State.reset.withFetchWord 32 0x03)) = some (0x00400500, 0, 0) := by decide
/-- K10. -/
theorem test_total_ir_length : next? report (step (running (.totalIrLength 0) (chainB 0 0))) = some (0x2, 15, 0) := by decide
/-- V6, the request. -/
theorem test_total_dr_length_probes : next? request (step (running (.totalDrLength 0) (chainB 0 0))) =
    some (some { kind := .dr, bits := bits [0, 0, 0, 0, 0, 0, 0, 0, 1, 1, 1, 1, 1, 1, 1, 1], idle := 0, capture := true }) := by decide
/-- V6, Q1: the answer. -/
theorem test_total_dr_length : next? report (step (answered (.totalDrLength 0) .probe
    (bits [0, 0, 0, 0, 0, 1, 1, 1, 1, 1, 1, 1, 1, 0, 0, 0]) (chainB 0 0))) = some (0x2, 3, 0) := by decide
/-- K12. -/
theorem test_device_view : next? (fun t => (t.dvIdcode, t.dvIrlen, t.dvIrlenBefore, t.dvIrlenAfter, t.dvDevsBefore, t.dvDevsAfter))
    (step (running (.deviceView 0) (chainA 0 0))) = some (0x10000001, 5, 0, 4, 0, 1) := by decide
/-- K11. -/
theorem test_device_view_in_the_middle :
    next? (fun t => (t.dvIdcode, t.dvIrlen, t.dvIrlenBefore, t.dvIrlenAfter, t.dvDevsBefore, t.dvDevsAfter))
    (step (running (.deviceView 1) (chainB 0 0))) = some (0, 8, 2, 5, 1, 1) := by decide
/-- V1. -/
theorem test_write_ir : next? request (step (running (.writeIr 1) (chainA 0xA 4))) =
    some (some { kind := .ir, bits := bits [1, 1, 1, 1, 1, 1, 0, 1, 0], idle := 0, capture := false }) := by decide
/-- I2. -/
theorem test_write_ir_width : next? report (step (running (.writeIr 0) (chainA 0xA 4))) = some (0x00120202, 0, 0) := by decide
/-- V4's second command: the capture and its strip. -/
theorem test_read_write_ir : next? report (step (answered (.readWriteIr 1) .ir (bits [1, 1, 1, 1, 1, 1, 0, 1, 0]) (chainA 0xF 4))) =
    some (0x2, 0xA, 4) := by decide
/-- I11: a failed scan. -/
theorem test_read_write_ir_failure : next? report (step { running (.readWriteIr 1) (chainA 0 4) with
    pos := .ir, reply := .failed .driverFailure }) = some (0x00010102, 0, 0) := by decide
/-- I7. -/
theorem test_verify_ir_capture : next? report (step (answered (.verifyIrCapture 1) .ir (bits [0, 0, 0, 0, 1, 0, 0, 0, 1]) (chainA 0 0))) =
    some (0xA, 1, 4) := by decide
/-- I9. -/
theorem test_verify_ir_capture_all_ones : next? report (step (answered (.verifyIrCapture 1) .ir (ones 9) (chainA 0 0))) =
    some (0x2, 0xF, 4) := by decide
/-- R1. -/
theorem test_write_dr : next? request (step (running (.writeDr 1) { chainA 0xB 4 with idle := 5 })) =
    some (some { kind := .dr, bits := bits [1, 1, 0, 1, 1], idle := 5, capture := false }) := by decide
/-- R2: device 0 comes first on the wire. -/
theorem test_write_dr_device_0 : next? request (step (running (.writeDr 0) { chainA 0xB 4 with idle := 5 })) =
    some (some { kind := .dr, bits := bits [1, 0, 1, 1, 1], idle := 5, capture := false }) := by decide
/-- R4, the answer. -/
theorem test_read_write_dr : next? report (step (answered (.readWriteDr 1) .dr (bits [0, 0, 1, 0, 1, 0]) (chainB 6 4))) =
    some (0x2, 5, 4) := by decide
/-- R5. -/
theorem test_current_dr_length : next? report (step (answered (.currentDrLength 1) .probe
    (bits [0, 0, 1, 1, 1, 1, 1, 1, 1, 1, 0, 0, 1, 0, 1, 0]) (chainB 0 0))) = some (0x2, 4, 0) := by decide
/-- R7: fewer bits than the other devices. -/
theorem test_current_dr_length_negative : next? report (step (answered (.currentDrLength 0) .probe
    (zeros 8 ++ ones 8) (chainB 0 0))) = some (0x2, 0xFFFFFFFE, 0) := by decide
/-- R10: the comparison is of integers. -/
theorem test_verify_dr_length_mismatch :
    next? (fun t => (statusWord t, t.mmInstr, t.mmObserved, t.mmExpected, t.result)) (step (answered (.verifyDrLength 1) .probe
      (zeros 8 ++ ones 8) { chainA 1 4 with expect := 0xFFFFFFFF })) =
    some (0x00200302, 1, 0xFFFFFFFF, 0xFFFFFFFF, 0) := by decide
/-- R8's shape with a shorter register: L = 5 and one other device. -/
theorem test_verify_dr_length_match : next? report (step (answered (.verifyDrLength 1) .probe
      (zeros 3 ++ ones 8 ++ zeros 5) { chainA 1 4 with expect := 4 })) = some (0x2, 4, 0) := by decide
/-- R14's third scan, with EXPECT 4. -/
theorem test_check_dr_reads : next? request (step (answered (.checkDr 1) .probe (zeros 3 ++ ones 8 ++ zeros 5)
      { chainA 1 4 with expect := 4 })) =
    some (some { kind := .dr, bits := bits [1, 0, 0, 0, 0], idle := 0, capture := true }) := by decide
/-- R13: IR_WIDTH is checked before the capacity. -/
theorem test_check_dr_priority : next? report (step (running (.checkDr 1) { chainA 1 3 with expect := 4097 })) =
    some (0x00120202, 0, 0) := by decide
/-- V8, P3: the first IR value is all zeros. -/
theorem test_survey_starts : next? request (step (running (.survey 1) (chainA 0 0))) =
    some (some { kind := .ir, bits := bits [1, 1, 1, 1, 1, 0, 0, 0, 0], idle := 0, capture := false }) := by decide
/-- P3: a failed IR write becomes a record. -/
theorem test_survey_records_a_failure :
    next? (fun t => (statusWord t, t.survIr, survStatWord t, t.survDrlen)) (step { running (.survey 1) (chainA 0 0) with
      pos := .ir, reply := .failed .driverFailure, survDev := 1, survNext := 2, survCount := 2 }) =
    some (0x7, 2, 0x00010100, 0) := by decide
/-- S2: STOP wins over NEXT. -/
theorem test_survey_stop : next? report (step { running (.survey 1) (chainA 0 0) with
    phase := .waitAck, pos := .record, survDev := 1, inbox := [.write 0x038 4 3] }) = some (0x2, 1, 0) := by decide
/-- E5. -/
theorem test_reserved_field : next? report (step ((chainA 0 0).withFetchWord 32 0x28)) = some (0x00310402, 0, 0) := by decide
/-- S4. -/
theorem test_overrun : next? (fun t => (t.overrun, t.txLen)) (step { running (.writeIr 1) (chainA 0 4) with
    inbox := [.write 0x008 4 9] }) = some (true, 4) := by decide
/-- V9. -/
theorem test_split : split (bits [1, 1, 0, 1, 0, 0]) [2, 3, 1] = some [3, 2, 0] ∧
    split (bits [1, 1, 0, 1, 0, 0]) [2, 3] = none := by decide
/-- R33: where the windows begin and end. -/
theorem test_register_map_edges :
    regAt Config.reference 0xFFC = .unmapped ∧ regAt Config.reference 0x03C = .unmapped ∧
    regAt Config.reference 0x1000 = .tx 0 ∧ regAt Config.reference 0x11FC = .tx 127 ∧ regAt Config.reference 0x1200 = .unmapped ∧
    regAt Config.reference 0x21FC = .rx 127 ∧ regAt Config.reference 0x2200 = .unmapped ∧
    regAt Config.reference 0x30F8 = .descIdcode 31 ∧ regAt Config.reference 0x30FC = .descIrlen 31 ∧
    regAt Config.reference 0x3100 = .unmapped := by decide

/-! ### Witnesses: each obligation's hypotheses are met together -/

/-- Chain A with an operand for device 1, just accepted. -/
def ready (i : Instr) : State := running i { chainA 0xA 4 with expect := 4, idle := 5 }

/-- A capture for Chain A's IR path, and a probe capture that measures L = 5. -/
def probed : Bits := zeros 3 ++ ones 8 ++ zeros 5

/-- WRITE_IR 1 waiting for its scan: a legal state with everything in play. -/
def inFlight (inputs : List Input) : State :=
  { waiting (.writeIr 1) .ir (scanIR (bits [1, 1, 1, 1, 1, 1, 0, 1, 0]) false) (chainA 0xA 4) with inbox := inputs }

theorem witness_inv (inputs : List Input) : Inv (inFlight inputs) where
  params := by show small.wf = true; decide
  memory := ⟨by
    show Memory.wf (clearRange ((0x1000, 0xA) :: tableA) rxBase (rxBase + 4 * small.seqWords)) = true
    decide, by
    show ∀ c ∈ clearRange ((0x1000, 0xA) :: tableA) rxBase (rxBase + 4 * small.seqWords), mapped small c.1 = true
    decide⟩
  chain := fun _ => ⟨by show 2 ≤ 3; decide, by show badDescriptor (running (.writeIr 1) (chainA 0xA 4)) 2 = false; decide⟩
  phase := ⟨.writeIr 1, ⟨by show decode (encode (.writeIr 1)) = _; decide,
    by show firstError (staticChecks (.writeIr 1) (running (.writeIr 1) (chainA 0xA 4))) = none; decide, trivial⟩, by
    show scanAt (.writeIr 1) (running (.writeIr 1) (chainA 0xA 4)) .ir = _; decide⟩
  cleared := fun _ => ⟨rfl, rfl, rfl, rfl, rfl, rfl, rfl, rfl, rfl, rfl, rfl, rfl, rfl⟩
  rx := by show rxVal (running (.writeIr 1) (chainA 0xA 4)) < 2 ^ 0; decide

theorem witness_legal_steps :
    nextRefused (inFlight [.respond 1 .transportError]) = false ∧ nextRefused (inFlight [.write 0x3FFC 4 0]) = false ∧
    nextRefused (inFlight [.write 0x4000 4 0]) = true ∧ nextRefused (inFlight [.read 2 4]) = true ∧
    (∃ req, (inFlight []).phase = .waitScan req) ∧ ∃ t, step (inFlight [.respond 1 .transportError]) = .next t :=
  ⟨by decide, by decide, by decide, by decide, ⟨_, rfl⟩, ⟨_, rfl⟩⟩

theorem witness_encoding :
    (Instr.loadChain 0).wf = true ∧ (Instr.survey 255).wf = true ∧ decode 0x0000FF18#32 = .command (.survey 255) ∧
    decode 0x00000001#32 = .command (.loadChain 0) ∧ (0x1F#32).toNat % 32 ∉ [1, 2, 3, 4, 5, 6, 8, 9, 10, 16, 17, 18, 19, 20, 24] ∧
    (0x00010018#32).toNat / 65536 ≠ 0 ∧ (0x00000028#32).toNat / 32 % 8 ≠ 0 := by decide

theorem witness_step_runs : (ready (.writeIr 1)).phase = .running 0x00000108#32 ∧
    decode 0x00000108#32 = .command (.writeIr 1) ∧ controllerMoves (ready (.writeIr 1)) = true := by decide

theorem witness_illegal_words (w : Word) :
    (accept w (chainA 0 0)).phase = .running w ∧ controllerMoves (accept w (chainA 0 0)) = true := ⟨rfl, rfl⟩

theorem witness_illegal_fields :
    (0x00000000#32).toNat % 32 ∈ [0, 7, 11, 12, 13, 14, 15, 21, 22, 23, 25, 26, 27, 28, 29, 30, 31] ∧
    (0x0000001F#32).toNat % 32 ∈ [0, 7, 11, 12, 13, 14, 15, 21, 22, 23, 25, 26, 27, 28, 29, 30, 31] ∧
    (0x00000021#32).toNat % 32 = 1 ∧ (0x00000021#32).toNat / 32 % 8 ≠ 0 ∧
    (0x80000018#32).toNat % 32 = 24 ∧ (0x80000018#32).toNat / 65536 ≠ 0 := by decide

theorem witness_idle_registers :
    (State.reset).busy = false ∧ State.reset.configured = false ∧ State.reset.cfg.wf = true ∧ Memory.wf State.reset.mem = true ∧
    0 < State.reset.cfg.seqWords ∧ 127 < State.reset.cfg.seqWords ∧ 0 < State.reset.cfg.maxDevices ∧
    31 < State.reset.cfg.maxDevices := by decide

theorem witness_loaded_chain : (chainA 0 0).configured = true ∧ (chainA 0 0).busy = false ∧ admitted 0x014 4 = true ∧
    admitted 0x3000 4 = true ∧ admitted 0x3FFC 4 = true := by decide

theorem witness_busy_writes : (ready (.writeIr 1)).busy = true ∧ admitted 0x000 4 = true ∧
    droppedWhenBusy (regAt small 0x000) = true ∧ droppedWhenBusy (regAt small 0x3014) = true ∧
    admitted 0x038 4 = true ∧ ignoresWrites (regAt small 0x004) = true ∧ ignoresWrites (regAt small 0x3018) = true := by decide

/-- R33: SURV_STAT, a descriptor's two words and a TX word are read where the map puts them. -/
theorem test_read_surv_stat_and_descriptors :
    next? (·.readData) (step { chainA 0xA 4 with survStat := .probeNoEdge, inbox := [.read 0x030 4] }) = some 0x00030100 ∧
    next? (·.readData) (step { chainA 0xA 4 with inbox := [.read 0x3008 4] }) = some 0x1BEEF0DF ∧
    next? (·.readData) (step { chainA 0xA 4 with inbox := [.read 0x300C 4] }) = some 4 ∧
    next? (·.readData) (step { chainA 0xA 4 with inbox := [.read 0x1000 4] }) = some 0xA := by decide

theorem witness_accesses : admitted 0x3FFC 4 = true ∧ admitted 0x0000 4 = true ∧ admitted 0x4000 4 = false ∧
    admitted 0x0001 4 = false ∧ admitted 0x0000 2 = false := by decide

theorem witness_unmapped : regAt Config.reference 0x03C = .unmapped ∧ regAt Config.reference 0x038 = .survAck ∧
    Config.reference.seqWords ≤ 128 ∧ 0x1200 = 0x1000 + 4 * 128 ∧ Config.reference.seqWords ≤ 1023 ∧
    0x2FFC = 0x2000 + 4 * 1023 ∧ Config.reference.maxDevices ≤ 32 ∧ 0x3100 = 0x3000 + 8 * 32 ∧
    Config.reference.maxDevices ≤ 511 ∧ 0x3FFC = 0x3004 + 8 * 511 := by decide

theorem witness_late_response :
    (inFlight [.reset, .respond 1 .transportError]).inbox =
      .reset :: .respond (inFlight [.reset, .respond 1 .transportError]).issued .transportError :: [] ∧
    1 < (issue .ir (scanIR [] false) (inFlight [])).issued := by decide

theorem witness_sequences : 2 ^ 4 ≤ 16 ∧ 15 < 2 ^ 4 ∧ [2, 3].sum ≠ (bits [1, 1, 0, 1, 0, 0]).length ∧
    [2, 3, 1].sum = (bits [1, 1, 0, 1, 0, 0]).length ∧ 0 < 1 ∧ 31 < 32 := by decide

theorem witness_devices : 0 < devCount (chainB 0 0) ∧ 2 < devCount (chainB 0 0) := by decide

/-- Chain B's table with one entry's IR length replaced, not loaded. -/
def table (l0 l1 l2 : Byte) : State :=
  { chainB 0 0 with configured := false, mem := [(0x3004, l0), (0x300C, l1), (0x3014, l2)] }

theorem witness_load_chain :
    (ready (.loadChain 0)).pos = .start ∧ (ready (.loadChain 0)).configured = true ∧ (table 1 8 5).configured = false ∧
    small.maxDevices < devCount { table 1 8 5 with chainN := 4 } ∧ devCount (table 1 8 5) ≤ small.maxDevices ∧
    irlen (table 0 8 5) 0 = 0 ∧ small.maxIrlen < irlen (table 1 8 9) 2 := by decide

theorem witness_load_chain_lengths : ∀ i < 3, 1 ≤ irlen (table 1 8 5) i ∧ irlen (table 1 8 5) i ≤ small.maxIrlen := by decide

/-- What the commands that run without an error ask of the state, for device 1 of Chain A. -/
theorem witness_command_starts : ∀ i ∈ [Instr.clearChain 1, .deviceCount 1, .totalIrLength 1, .totalDrLength 1, .deviceView 1,
      .writeIr 1, .readWriteIr 1, .verifyIrCapture 1, .writeDr 1, .readWriteDr 1, .currentDrLength 1, .verifyDrLength 1,
      .checkDr 1, .survey 1],
    (ready i).pos = .start ∧ (ready i).configured = true ∧ 1 < devCount (ready i) ∧
    txCount (ready i) ≤ (ready i).cfg.maxSeqBits ∧ txCount (ready i) = irlen (ready i) 1 ∧ 2 ≤ irlen (ready i) 1 ∧
    irlen (ready i) 1 ≤ (ready i).cfg.maxIrlen ∧ (ready i).expect.toNat ≤ (ready i).cfg.maxSeqBits ∧
    (ready i).cfg.wf = true ∧ Memory.wf (ready i).mem = true ∧ (ready i).cfg.drProbeMax ≤ 2 ^ 31 := by decide

theorem witness_captures (i : Instr) :
    (ones 5).length = irlenBefore (chainA 0xA 4) 1 ∧ (zeros 4).length = irlen (chainA 0xA 4) 1 ∧
    (ones 0).length = irlenAfter (chainA 0xA 4) 1 ∧ (ones 1).length = 1 ∧
    (ones 0).length = devCount (chainA 0xA 4) - 1 - 1 ∧ (zeros 4).length = (ready i).expect.toNat ∧
    (zeros 4).length = txCount (ready i) := ⟨by decide, by decide, by decide, rfl, by decide, rfl, rfl⟩

theorem witness_probe : probed.length = 2 * small.drProbeMax ∧ leadingZeros probed = 3 ∧ 1 ≤ small.drProbeMax ∧
    (zeros 7).length < 8 ∧ 8 ≤ (zeros 8).length ∧ (zeros 15).length < 2 * 8 := by decide

/-- The probe measures L = 5, which is 4 bits of device 1's own: EXPECT 4 matches and EXPECT 5 does not. -/
theorem witness_probe_verdict : evaluateProbe small.drProbeMax probed = .ok 5 ∧
    (5 : Int) - 1 - ((devCount (chainA 0xA 4) : Int) - 1 - 1) = (4#32).toNat ∧
    (5 : Int) - 1 - ((devCount (chainA 0xA 4) : Int) - 1 - 1) ≠ (5#32).toNat := ⟨rfl, by decide, by decide⟩

theorem witness_survey_records : ∀ r ∈ [Reply.ok [], .failed .driverFailure], ∀ p ∈ [Pos.ir, .probe],
    ({ ready (.survey 1) with pos := p, reply := r, survDev := 1 } : State).pos = p ∧
    ({ ready (.survey 1) with pos := p, reply := r, survDev := 1 } : State).reply = r ∧
    1 < devCount (ready (.survey 1)) := by decide

theorem witness_survey_probe_verdicts : evaluateProbe 8 probed = .ok 5 ∧
    evaluateProbe 8 (ones 16) = .error .probeNoEdge ∧ Detail.probeNoEdge ≠ .none := ⟨rfl, rfl, by decide⟩

theorem witness_acknowledgement :
    ({ ready (.survey 1) with phase := .waitAck, survDev := 1 } : State).recValid = true ∧ (ready (.survey 1)).recValid = false ∧
    (2#32).getLsbD 1 = true ∧ (1#32).getLsbD 1 = false ∧ (1#32).getLsbD 0 = true ∧ (4#32).getLsbD 0 = false ∧
    (4#32).getLsbD 1 = false ∧ 14 + 1 < 2 ^ irlen (ready (.survey 1)) 1 ∧ 2 ^ irlen (ready (.survey 1)) 1 ≤ 15 + 1 := by decide

/-- The answers of a survey of Chain B's device 0, one IR scan failing and one probe failing. -/
def surveyAnswers : List (Option Response) := [some (.ok probed), none, some .transportError, some (.ok (ones 16))]

/-- SURVEY 0 on Chain B, accepted, with all its inputs to come. -/
def surveying : State :=
  { running (.survey 0) (chainB 0 0) with inbox := .tick :: surveyInputs 1 surveyAnswers }

theorem witness_full_survey : surveying.phase = .running surveying.cmd ∧ decode surveying.cmd = .command (.survey 0) ∧
    surveying.pos = .start ∧ surveying.configured = true ∧ 0 < devCount surveying ∧ surveying.detail = .none ∧
    surveyAnswers.length = 2 ^ irlen surveying 0 ∧
    surveying.inbox = .tick :: surveyInputs (surveying.issued + 1) surveyAnswers := by decide

theorem witness_static_error : (ready (.writeIr 2)).pos = .start ∧
    firstError (staticChecks (.writeIr 2) (ready (.writeIr 2))) = some .devIndex := by decide

/-- Chain A with a device of one IR bit as device 1, an operand of `n` bits and EXPECT 33. -/
def narrow (i : Instr) (n : Half) : State :=
  running i { chainA 0xA n with expect := 33, mem := [(0x3004, 5), (0x300C, 1)] }

/-- Each condition of R286 at its boundary, those before it passing. -/
theorem witness_static_conditions :
    ({ ready (.writeIr 1) with configured := false } : State).configured = false ∧ (Instr.writeIr 1).dev = 1 ∧
    devCount (ready (.survey 2)) ≤ 2 ∧ 1 < devCount (narrow (.writeDr 1) 33) ∧
    small.maxSeqBits < (narrow (.writeDr 1) 33).txLen.toNat ∧ (narrow (.writeIr 1) 32).txLen.toNat ≤ small.maxSeqBits ∧
    (narrow (.writeIr 1) 32).txLen.toNat ≠ irlen (narrow (.writeIr 1) 32) 1 ∧ irlen (narrow (.verifyIrCapture 1) 0) 1 < 2 ∧
    (narrow (.checkDr 1) 1).txLen.toNat = irlen (narrow (.checkDr 1) 1) 1 ∧
    small.maxSeqBits < (narrow (.checkDr 1) 1).expect.toNat ∧ (narrow (.checkDr 1) 1).configured = true := by decide

/-- READ_WRITE_IR 1 waiting for its scan. -/
def reading : State := waiting (.readWriteIr 1) .ir (scanIR (bits [1, 1, 1, 1, 1, 1, 0, 1, 0]) true) (chainA 0xA 4)

theorem witness_transport_error :
    reading.phase = .waitScan (scanIR (bits [1, 1, 1, 1, 1, 1, 0, 1, 0]) true) ∧
    scanAt (.readWriteIr 1) reading reading.pos = some (scanIR (bits [1, 1, 1, 1, 1, 1, 0, 1, 0]) true) ∧
    (bits [1, 0, 0, 0, 0, 0, 0, 1]).length ≠ (bits [1, 1, 1, 1, 1, 1, 0, 1, 0]).length ∧
    ∀ d, Instr.readWriteIr 1 ≠ .survey d := ⟨rfl, by decide, by decide, fun _ => nofun⟩

/-- CHECK_DR 1 after a probe that came back all zeros. -/
def badProbe : State := answered (.checkDr 1) .probe (zeros 16) (chainA 0xA 4)

theorem witness_failed_probe : scanAt (.checkDr 1) badProbe .probe = some (probeReq badProbe) ∧ badProbe.pos = .probe ∧
    badProbe.reply = .ok (zeros 16) ∧ evaluateProbe badProbe.cfg.drProbeMax (zeros 16) = .error .probeInconsistent ∧
    ∀ d, Instr.checkDr 1 ≠ .survey d := ⟨rfl, rfl, rfl, rfl, fun _ => nofun⟩

theorem witness_exec_next : ∃ t, exec (.readWriteDr 1) (answered (.readWriteDr 1) .dr (ones 5) (chainA 0xA 4)) = .next t :=
  ⟨_, rfl⟩

theorem witness_one_scan : (∃ t, step (inFlight []) = .next t) ∧ (∃ t, step (ready (.writeIr 1)) = .next t) ∧
    (ready (.writeIr 1)).issued = 0 ∧ next? (·.issued) (step (ready (.writeIr 1))) = some 1 :=
  ⟨⟨_, rfl⟩, ⟨_, rfl⟩, rfl, by decide⟩

/-- R97: a TransportError that arrives as an input is taken with a chain attached, too. -/
theorem test_input_response_with_a_chain :
    next? (fun t => (t.phase, t.reply)) (step { inFlight [.respond 1 .transportError] with
      driver := .chain { devices := [refDevice (ones 5) [], refDevice (ones 4) []], fails := [], scans := 0, emptyScan := .noop } }) =
    some (.running (inFlight []).cmd, .failed .driverFailure) := by decide

/-- A wait ends by the input that names its request, not by one that names an earlier one, nor by a bare tick. -/
theorem witness_response_taken :
    next? (·.phase) (step (inFlight [.respond 1 .transportError])) = some (.running (inFlight []).cmd) ∧
    next? (·.phase) (step (inFlight [.respond 0 .transportError])) = some (inFlight []).phase ∧
    next? (·.phase) (step (inFlight [.tick])) = some (inFlight []).phase ∧
    next? (·.phase) (step { inFlight [.tick] with driver := .recording [] }) = some (.running (inFlight []).cmd) := by decide

theorem witness_loaded_chain_stays : (chainA 0xA 4).cfg.wf = true ∧ (chainA 0xA 4).configured = true ∧
    next? (·.configured) (step { chainA 0xA 4 with inbox := [.write 0x014 4 7] }) = some true := by decide

theorem witness_configured_changes :
    next? (·.configured) (step (running (.loadChain 0) { chainA 0 0 with configured := false })) = some true ∧
    next? (·.configured) (step (running (.clearChain 0) (chainA 0 0))) = some false := by decide

theorem witness_stable_arguments : (inFlight [.write 0x008 4 9]).busy = true ∧
    (inFlight [.write 0x008 4 9]).inbox.head? ≠ some .reset ∧
    next? (·.txLen) (step (inFlight [.write 0x008 4 9])) = some 4 := by decide

theorem witness_idle_controller : (chainA 0 0).phase = .idle ∧
    ({ chainA 0 0 with inbox := [.read 0 4] } : State).inbox.head? ≠ some .reset ∧
    (∀ a n v, ({ chainA 0 0 with inbox := [.read 0 4] } : State).inbox.head? ≠ some (.write a n v)) ∧
    ∃ t, step { chainA 0 0 with inbox := [.read 0 4] } = .next t :=
  ⟨by decide, by decide, fun _ _ _ => nofun, _, rfl⟩

/-- R104, R108: a reference device keeps the IR it is given and captures 0…01 whatever that IR is. -/
theorem test_ref_device : captureIrOf (refDevice (bits [1, 0, 1, 0]) []) = bits [0, 0, 0, 1] ∧
    (refDevice (bits [1, 0, 1, 0]) []).ir = bits [1, 0, 1, 0] := by decide

theorem witness_echo : (∀ dev ∈ [echoDevice 5 [], echoDevice 4 []], dev.captureIr = none) ∧
    ([echoDevice 5 [], echoDevice 4 []].map fun dev => dev.ir.length).sum = totalIR (chainA 0 0) ∧
    1 < devCount (chainA 0 0) ∧ (bits [1, 0, 1, 0]).length = irlen (chainA 0 0) 1 ∧ (ones 4).length = irlen (chainA 0 0) 1 := by
  decide

end Sys2Proof.Tests
end

section
/-! How long the sequences are that the controller hands to the Scan Driver (R8, R183, R186, R210, R230), and what the static
checks of R286 give a command that passed them. -/

namespace Sys2Proof.Machine

/-! ### Lengths of the chain-wide sequences -/

@[simp] theorem padIR_length (s : State) (d : Nat) (b : Bits) :
    (padIR s d b).length = irlenBefore s d + b.length + irlenAfter s d := by
  simp [padIR]

@[simp] theorem padDR_length (s : State) (d : Nat) (b : Bits) :
    (padDR s d b).length = devsBefore s d + b.length + devsAfter s d := by
  simp [padDR]

@[simp] theorem probeReq_bits_length (s : State) : (probeReq s).bits.length = 2 * s.cfg.drProbeMax := by
  simp [probeReq, scanDR, Nat.two_mul]

/-- R184: a device's IR bits with those before and after it are the chain's. -/
theorem irlenBefore_add_irlen_add_irlenAfter {s : State} {d : Nat} (hd : d < devCount s) :
    irlenBefore s d + irlen s d + irlenAfter s d = totalIR s := by
  have hcount : devCount s = (d + 1) + (devCount s - 1 - d) := by omega
  have hself : irlenSum s 0 (d + 1) = irlenBefore s d + irlen s d := by
    simp [irlenSum, irlenBefore]
  calc irlenBefore s d + irlen s d + irlenAfter s d
      = irlenSum s 0 (d + 1) + irlenSum s (d + 1) (devCount s - 1 - d) := by rw [hself, irlenAfter]
    _ = irlenSum s 0 ((d + 1) + (devCount s - 1 - d)) := by rw [irlenSum_add s 0 (d + 1), Nat.zero_add]
    _ = totalIR s := by rw [← hcount, totalIR]

/-- R184: the same for the device counts. -/
theorem devsBefore_add_devsAfter {s : State} {d : Nat} (hd : d < devCount s) :
    devsBefore s d + devsAfter s d = devCount s - 1 := by
  simp only [devsBefore, devsAfter]
  omega

theorem irlenSum_le_mul {s : State} {m : Nat} :
    ∀ {n : Nat}, (∀ i < n, irlen s i ≤ m) → irlenSum s 0 n ≤ n * m
  | 0, _ => by simp [irlenSum]
  | n + 1, h => by
    have ih := irlenSum_le_mul fun i hi => h i (Nat.lt_succ_of_lt hi)
    have hlast := h n n.lt_succ_self
    simp only [irlenSum, Nat.zero_add, Nat.succ_mul]
    omega

theorem totalIR_le_of_chainOk {s : State} (hchain : ChainOk s) (hconf : s.configured = true) :
    totalIR s ≤ s.cfg.maxDevices * s.cfg.maxIrlen := by
  obtain ⟨hcount, hdesc⟩ := hchain hconf
  have hirlen : ∀ i < devCount s, irlen s i ≤ s.cfg.maxIrlen :=
    fun i hi => ((badDescriptor_false s _).mp hdesc i hi).2
  exact (irlenSum_le_mul hirlen).trans (Nat.mul_le_mul_right _ hcount)

/-! ### What R286's checks say once they pass -/

theorem configured_of_checks {i : Instr} {s : State} (hok : firstError (staticChecks i s) = none)
    (hi : needsChain i = true) : s.configured = true := by
  simpa [checkConfigured] using firstError_none.mp hok (checkConfigured s) (by simp [staticChecks, hi])

theorem dev_lt_of_checks {i : Instr} {s : State} (hok : firstError (staticChecks i s) = none)
    (hi : isDeviceCommand i = true) : i.dev < devCount s := by
  simpa [checkDev] using firstError_none.mp hok (checkDev s i.dev) (by simp [staticChecks, hi])

theorem txCount_le_of_checks {i : Instr} {s : State} (hok : firstError (staticChecks i s) = none)
    (hi : readsTx i = true) : txCount s ≤ s.cfg.maxSeqBits := by
  simpa [checkTxLen] using firstError_none.mp hok (checkTxLen s) (by simp [staticChecks, hi])

theorem txCount_eq_irlen_of_checks {i : Instr} {s : State} {d : Nat} (hok : firstError (staticChecks i s) = none)
    (hi : checkIrWidth s d ∈ ownChecks i s) : txCount s = irlen s d := by
  simpa [checkIrWidth] using firstError_none.mp hok (checkIrWidth s d) (by simp [staticChecks, hi])

theorem expect_le_of_checks {i : Instr} {s : State} (hok : firstError (staticChecks i s) = none)
    (hi : checkExpect s ∈ ownChecks i s) : s.expect.toNat ≤ s.cfg.maxSeqBits := by
  simpa [checkExpect] using firstError_none.mp hok (checkExpect s) (by simp [staticChecks, hi])

/-! ### The scans a checked command issues -/

/-- A request's sequence is as the rule of its kind builds it for device `d`: the probe (R186), an IR value as wide as the
device's IR within the chain's padding (R210), or DR bits that fit the buffers within it (R230). -/
inductive ScanShape (s : State) (d : Nat) (req : ScanReq) : Prop
  | probe (hreq : req = probeReq s)
  | ir (b : Bits) (hdev : d < devCount s) (hwidth : b.length = irlen s d) (hbits : req.bits = padIR s d b)
  | dr (b : Bits) (hdev : d < devCount s) (hfits : b.length ≤ s.cfg.maxSeqBits) (hbits : req.bits = padDR s d b)

theorem needsChain_of_scanAt {i : Instr} {s : State} {p : Pos} {req : ScanReq} (h : scanAt i s p = some req) :
    needsChain i = true := by
  cases i with
  | loadChain d | clearChain d => simp [scanAt] at h
  | _ => rfl

/-- R210: a command whose IR-width check passed scans its TX operand at exactly the device's width. -/
theorem scanShape_ir_operand {i : Instr} {s : State} (hok : firstError (staticChecks i s) = none)
    (hi : isDeviceCommand i = true) (hw : checkIrWidth s i.dev ∈ ownChecks i s) (cap : Bool) :
    ScanShape s i.dev (scanIR (padIR s i.dev (txArg s)) cap) :=
  .ir (txArg s) (dev_lt_of_checks hok hi) ((txArg_length s).trans (txCount_eq_irlen_of_checks hok hw)) rfl

/-- Column 8 of R286 by the shape of its scans. At every position but those named, a command has no scan outstanding. -/
theorem scanShape_of_scanAt {i : Instr} {s : State} {p : Pos} {req : ScanReq}
    (hok : firstError (staticChecks i s) = none) (h : scanAt i s p = some req) : ScanShape s i.dev req := by
  have hdev := dev_lt_of_checks hok
  have hoperand := scanShape_ir_operand hok
  cases i with
  | loadChain d | clearChain d | deviceCount d | totalIrLength d | deviceView d => cases p <;> cases h
  | totalDrLength d | currentDrLength d =>
    cases p <;> cases h
    case probe.refl => exact .probe rfl
  | writeIr d | readWriteIr d =>
    cases p <;> cases h
    case ir.refl => exact hoperand rfl (List.mem_singleton_self _) _
  | verifyIrCapture d =>
    cases p <;> cases h
    case ir.refl => exact .ir (ones (irlen s d)) (hdev rfl) (ones_length _) rfl
  | writeDr d | readWriteDr d =>
    cases p <;> cases h
    case dr.refl => exact .dr (txArg s) (hdev rfl) ((txArg_length s).trans_le (txCount_le_of_checks hok rfl)) rfl
  | verifyDrLength d =>
    cases p <;> cases h
    case ir.refl => exact hoperand rfl (List.mem_singleton_self _) _
    case probe.refl => exact .probe rfl
  | checkDr d =>
    have hexpect := expect_le_of_checks hok (by simp [ownChecks])
    cases p <;> cases h
    case ir.refl => exact hoperand rfl List.mem_cons_self _
    case probe.refl => exact .probe rfl
    case dr.refl => exact .dr (zeros s.expect.toNat) (hdev rfl) ((zeros_length _).trans_le hexpect) rfl
  | survey d =>
    cases p <;> cases h
    case ir.refl => exact .ir (bitsOf s.survNext (irlen s d)) (hdev rfl) (bitsOf_length _ _) rfl
    case probe.refl => exact .probe rfl

/-- R7's three bounds in MAX_SCAN_BITS, one for each shape of scan. -/
theorem ScanShape.length_le {s : State} {d : Nat} {req : ScanReq} (hshape : ScanShape s d req)
    (hchain : ChainOk s) (hconf : s.configured = true) : req.bits.length ≤ s.cfg.maxScanBits := by
  unfold Config.Params.maxScanBits
  cases hshape with
  | probe hreq =>
    rw [hreq, probeReq_bits_length]
    omega
  | ir b hdev hwidth hbits =>
    have hsum := irlenBefore_add_irlen_add_irlenAfter hdev
    have htotal := totalIR_le_of_chainOk hchain hconf
    rw [hbits, padIR_length, hwidth]
    omega
  | dr b hdev hfits hbits =>
    have hsum := devsBefore_add_devsAfter hdev
    have hcount := (hchain hconf).1
    rw [hbits, padDR_length]
    omega

/-- Settles O54: the phase clause of the invariant names the command whose scan is outstanding, its checks have passed, and each
shape of scan stays within the bound R7 has for it. -/
theorem scansFitTheDriver : Obligations.ScansFitTheDriver := by
  unfold Obligations.ScansFitTheDriver
  intro s req hinv hwait
  have hphase := hinv.phase
  simp only [PhaseOk, hwait] at hphase
  obtain ⟨i, ⟨-, hok, -⟩, hscan⟩ := hphase
  have hconf := configured_of_checks hok (needsChain_of_scanAt hscan)
  exact (scanShape_of_scanAt hok hscan).length_le hinv.chain hconf

end Sys2Proof.Machine
end

section
/-! What one step can do, said once: the outcomes of a command's stretch, then the outcomes of a step. Every statement about
all steps is a case analysis over these. -/

namespace Sys2Proof.Machine

/-! ### One stretch of a command -/

/-- The reply to the scan outstanding at this place, stripped of `pre` and `post` padding bits, is `r`; `n` is how long the strip
of a capture that fits the scan is (R94, R210, R230). -/
structure Stripped (i : Instr) (s : State) (req : ScanReq) (pre n post : Nat) (r : Bits) : Prop where
  scan : scanAt i s s.pos = some req
  capture : req.capture = true
  strip : ∃ o, s.reply = .ok o ∧ Machine.strip pre post o = some r
  bits : firstError (staticChecks i s) = none → req.bits.length = pre + n + post
  fits : firstError (staticChecks i s) = none → n < 2 ^ 16 ∨ n ≤ s.cfg.maxSeqBits

/-- R260, R261: the loop head's IR scan of the cursor's value (`surveyLoop_cases`). -/
def surveyScan (s : State) : State :=
  issue .ir (scanIR (padIR s s.survDev (bitsOf s.survNext (irlen s s.survDev))) false) s

/-- Every outcome of one stretch of the command `i` (log 4). -/
inductive Stretch (i : Instr) (s : State) : State → Prop
  | raised (e : Detail) : Stretch i s (raise e s)
  | mismatched (b : Bits) (c : Int) : Stretch i s (raiseMismatch b c s)
  | loaded (d : Nat) (hi : i = .loadChain d) (hok : firstError (staticChecks i s) = none) :
      Stretch i s (finish { s with configured := true })
  | cleared (d : Nat) (hi : i = .clearChain d) : Stretch i s (finish { s with configured := false })
  /-- The command completes with what it writes to RESULT and to DV_*. -/
  | completed (result idcode : Word) (len before after devsBefore devsAfter : Half) :
      Stretch i s (finish { s with
        result := result, dvIdcode := idcode, dvIrlen := len, dvIrlenBefore := before, dvIrlenAfter := after,
        dvDevsBefore := devsBefore, dvDevsAfter := devsAfter })
  /-- The command completes with a captured sequence, and VERIFY_IR_CAPTURE with its verdict. -/
  | captured (req : ScanReq) (pre n post : Nat) (r : Bits) (verdict : Bool) (hr : Stripped i s req pre n post r) :
      Stretch i s (finish { putCapture n r s with boolFlag := verdict })
  | scanned (p : Pos) (req : ScanReq) (hscan : scanAt i s p = some req)
      (hstart : s.pos = .start → firstError (staticChecks i s) = none ∧ surveyOk i s) : Stretch i s (issue p req s)
  /-- SURVEY sets its cursor and writes the first IR value. -/
  | surveyed (d : Nat) (hi : i = .survey d) (hok : firstError (staticChecks i s) = none) :
      Stretch i s (surveyScan { s with survDev := d, survNext := 0, survCount := 0 })
  | recorded (d : Nat) (hi : i = .survey d) (hpos : s.pos ≠ .start) (e : Detail) (c : Int) : Stretch i s (emitRecord e c s)

section
variable {i : Instr} {s t : State}

/-- A command that completes and writes no result register. -/
theorem Stretch.finished : Stretch i s (finish s) := .completed s.result _ _ _ _ _ _

theorem Stretch.answered (w : Word) : Stretch i s (finish { s with result := w }) := .completed w _ _ _ _ _ _

theorem Stretch.of_guarded {checks : List (Bool × Detail)} {k : Result} (h : guarded checks s k = .next t)
    (hk : firstError checks = none → k = .next t → Stretch i s t) : Stretch i s t := by
  rcases guarded_cases (checks := checks) (s := s) (k := k) with ⟨hok, hg⟩ | ⟨e, -, hg⟩
  · exact hk hok (hg ▸ h)
  · cases hg ▸ h
    exact .raised e

theorem Stretch.of_onReply {k : Bits → Result} (h : onReply s k = .next t)
    (hk : ∀ o, s.reply = .ok o → k o = .next t → Stretch i s t) : Stretch i s t := by
  rcases onReply_cases (s := s) (k := k) with ⟨e, -, hr⟩ | ⟨o, ho, hr⟩
  · cases hr ▸ h
    exact .raised e
  · exact hk o ho (hr ▸ h)

theorem Stretch.of_onProbe {k : Nat → Result} (h : onProbe s k = .next t)
    (hk : ∀ l, k l = .next t → Stretch i s t) : Stretch i s t := by
  rcases onProbe_cases (s := s) (k := k) with ⟨e, -, hp⟩ | ⟨l, -, hp⟩
  · cases hp ▸ h
    exact .raised e
  · exact hk l (hp ▸ h)

theorem Stretch.of_compareWidth {d : Nat} {k : Int → Result} (h : compareWidth d s k = .next t)
    (hk : ∀ c, k c = .next t → Stretch i s t) : Stretch i s t := by
  rcases compareWidth_cases (d := d) (s := s) (k := k) with ⟨e, -, hw⟩ | ⟨l, -, ⟨-, hw⟩ | ⟨-, hw⟩⟩
  · cases hw ▸ h
    exact .raised e
  · cases hw ▸ h
    exact .mismatched _ _
  · exact hk _ (hw ▸ h)

/-- R234: after its IR scan a command that compares lengths probes. -/
theorem Stretch.of_probeAfterIr (hpos : s.pos = .ir) (hprobe : scanAt i s .probe = some (probeReq s))
    (h : probeAfterIr s = .next t) : Stretch i s t :=
  .of_onReply h fun _ _ hk => by
    cases hk
    exact .scanned .probe _ hprobe (by simp [hpos])

/-- R210: an IR capture's strip is as long as the device's IR. -/
theorem Stripped.ir {d : Nat} {b o r : Bits} (hscan : scanAt i s s.pos = some (scanIR (padIR s d b) true))
    (hb : firstError (staticChecks i s) = none → b.length = irlen s d) (ho : s.reply = .ok o)
    (hr : stripIR s d o = some r) :
    Stripped i s (scanIR (padIR s d b) true) (irlenBefore s d) (irlen s d) (irlenAfter s d) r :=
  { scan := hscan, capture := rfl, strip := ⟨o, ho, hr⟩,
    bits := fun hok => by rw [← hb hok]; exact padIR_length s d b,
    fits := fun _ => .inl (descIrlen s d).isLt }

/-- R230: a DR capture's strip is as long as what was sent to the device. -/
theorem Stripped.dr {d : Nat} {b o r : Bits} {w : Word} (hscan : scanAt i s s.pos = some (scanDR (padDR s d b) w true))
    (hb : firstError (staticChecks i s) = none → b.length ≤ s.cfg.maxSeqBits) (ho : s.reply = .ok o)
    (hr : stripDR s d o = some r) :
    Stripped i s (scanDR (padDR s d b) w true) (devsBefore s d) b.length (devsAfter s d) r :=
  { scan := hscan, capture := rfl, strip := ⟨o, ho, hr⟩,
    bits := fun _ => padDR_length s d b,
    fits := fun hok => .inr (hb hok) }

theorem execLoadChain_stretch {d : Nat} (h : execLoadChain s = .next t) : Stretch (.loadChain d) s t := by
  unfold execLoadChain at h
  split at h
  case h_1 =>
    refine .of_guarded h fun hok hk => ?_
    cases hk
    exact .loaded d rfl hok
  all_goals cases h

theorem execClearChain_stretch {d : Nat} (h : execClearChain s = .next t) : Stretch (.clearChain d) s t := by
  unfold execClearChain at h
  split at h
  case h_1 =>
    cases h
    exact .cleared d rfl
  all_goals cases h

theorem execDeviceCount_stretch (h : execDeviceCount s = .next t) : Stretch i s t := by
  unfold execDeviceCount at h
  split at h
  case h_1 =>
    refine .of_guarded h fun _ hk => ?_
    cases hk
    exact .answered _
  all_goals cases h

theorem execTotalIrLength_stretch (h : execTotalIrLength s = .next t) : Stretch i s t := by
  unfold execTotalIrLength at h
  split at h
  case h_1 =>
    refine .of_guarded h fun _ hk => ?_
    cases hk
    exact .answered _
  all_goals cases h

theorem execTotalDrLength_stretch {d : Nat} (h : execTotalDrLength s = .next t) : Stretch (.totalDrLength d) s t := by
  unfold execTotalDrLength at h
  split at h
  case h_1 =>
    refine .of_guarded h fun hok hk => ?_
    cases hk
    exact .scanned .probe _ rfl fun _ => ⟨hok, trivial⟩
  case h_2 =>
    refine .of_onProbe h fun l hk => ?_
    cases hk
    exact .answered _
  all_goals cases h

theorem execDeviceView_stretch {d : Nat} (h : execDeviceView d s = .next t) : Stretch i s t := by
  unfold execDeviceView at h
  split at h
  case h_1 =>
    refine .of_guarded h fun _ hk => ?_
    cases hk
    exact .completed s.result _ _ _ _ _ _
  all_goals cases h

theorem execWriteIr_stretch {d : Nat} (h : execWriteIr d s = .next t) : Stretch (.writeIr d) s t := by
  unfold execWriteIr at h
  split at h
  case h_1 =>
    refine .of_guarded h fun hok hk => ?_
    cases hk
    exact .scanned .ir _ rfl fun _ => ⟨hok, trivial⟩
  case h_2 =>
    refine .of_onReply h fun _ _ hk => ?_
    cases hk
    exact .finished
  all_goals cases h

theorem execReadWriteIr_stretch {d : Nat} (h : execReadWriteIr d s = .next t) : Stretch (.readWriteIr d) s t := by
  unfold execReadWriteIr at h
  split at h
  case h_1 =>
    refine .of_guarded h fun hok hk => ?_
    cases hk
    exact .scanned .ir _ rfl fun _ => ⟨hok, trivial⟩
  case h_2 hpos =>
    refine .of_onReply h fun o ho hk => ?_
    split at hk <;> cases hk
    case h_2.refl r hr =>
      have hwidth := fun hok => txCount_eq_irlen_of_checks (i := .readWriteIr d) (s := s) hok (List.mem_singleton_self _)
      exact .captured _ _ _ _ _ _ (.ir (by rw [hpos]; rfl) (fun hok => (txArg_length s).trans (hwidth hok)) ho hr)
  all_goals cases h

theorem execVerifyIrCapture_stretch {d : Nat} (h : execVerifyIrCapture d s = .next t) :
    Stretch (.verifyIrCapture d) s t := by
  unfold execVerifyIrCapture at h
  split at h
  case h_1 =>
    refine .of_guarded h fun hok hk => ?_
    cases hk
    exact .scanned .ir _ rfl fun _ => ⟨hok, trivial⟩
  case h_2 hpos =>
    refine .of_onReply h fun o ho hk => ?_
    split at hk <;> cases hk
    case h_2.refl r hr =>
      exact .captured _ _ _ _ _ _ (.ir (by rw [hpos]; rfl) (fun _ => ones_length _) ho hr)
  all_goals cases h

theorem execWriteDr_stretch {d : Nat} (h : execWriteDr d s = .next t) : Stretch (.writeDr d) s t := by
  unfold execWriteDr at h
  split at h
  case h_1 =>
    refine .of_guarded h fun hok hk => ?_
    cases hk
    exact .scanned .dr _ rfl fun _ => ⟨hok, trivial⟩
  case h_2 =>
    refine .of_onReply h fun _ _ hk => ?_
    cases hk
    exact .finished
  all_goals cases h

theorem execReadWriteDr_stretch {d : Nat} (h : execReadWriteDr d s = .next t) : Stretch (.readWriteDr d) s t := by
  unfold execReadWriteDr at h
  split at h
  case h_1 =>
    refine .of_guarded h fun hok hk => ?_
    cases hk
    exact .scanned .dr _ rfl fun _ => ⟨hok, trivial⟩
  case h_2 hpos =>
    refine .of_onReply h fun o ho hk => ?_
    split at hk <;> cases hk
    case h_2.refl r hr =>
      have hfits := fun hok => txCount_le_of_checks (i := .readWriteDr d) (s := s) hok rfl
      rw [← txArg_length s] at hfits ⊢
      exact .captured _ _ _ _ _ _ (.dr (by rw [hpos]; rfl) hfits ho hr)
  all_goals cases h

theorem execCurrentDrLength_stretch {d : Nat} (h : execCurrentDrLength d s = .next t) :
    Stretch (.currentDrLength d) s t := by
  unfold execCurrentDrLength at h
  split at h
  case h_1 =>
    refine .of_guarded h fun hok hk => ?_
    cases hk
    exact .scanned .probe _ rfl fun _ => ⟨hok, trivial⟩
  case h_2 =>
    refine .of_onProbe h fun l hk => ?_
    cases hk
    exact .answered _
  all_goals cases h

theorem execVerifyDrLength_stretch {d : Nat} (h : execVerifyDrLength d s = .next t) :
    Stretch (.verifyDrLength d) s t := by
  unfold execVerifyDrLength at h
  split at h
  case h_1 =>
    refine .of_guarded h fun hok hk => ?_
    cases hk
    exact .scanned .ir _ rfl fun _ => ⟨hok, trivial⟩
  case h_2 hpos => exact .of_probeAfterIr hpos rfl h
  case h_3 =>
    refine .of_compareWidth h fun c hk => ?_
    cases hk
    exact .answered _
  all_goals cases h

theorem execCheckDr_stretch {d : Nat} (h : execCheckDr d s = .next t) : Stretch (.checkDr d) s t := by
  unfold execCheckDr at h
  split at h
  case h_1 =>
    refine .of_guarded h fun hok hk => ?_
    cases hk
    exact .scanned .ir _ rfl fun _ => ⟨hok, trivial⟩
  case h_2 hpos => exact .of_probeAfterIr hpos rfl h
  case h_3 hpos =>
    refine .of_compareWidth h fun c hk => ?_
    cases hk
    exact .scanned .dr _ rfl (by simp [hpos])
  case h_4 hpos =>
    refine .of_onReply h fun o ho hk => ?_
    split at hk <;> cases hk
    case h_2.refl r hr =>
      have hfits := fun hok => expect_le_of_checks (i := .checkDr d) (s := s) hok (by simp [ownChecks])
      rw [← zeros_length s.expect.toNat] at hfits ⊢
      exact .captured _ _ _ _ _ _ (.dr (by rw [hpos]; rfl) hfits ho hr)
  all_goals cases h

theorem execSurvey_stretch {d : Nat} (h : execSurvey d s = .next t) : Stretch (.survey d) s t := by
  unfold execSurvey at h
  split at h
  case h_1 =>
    refine .of_guarded h fun hok hk => ?_
    rcases surveyLoop_cases { s with survDev := d, survNext := 0, survCount := 0 } with ⟨-, hl⟩ | ⟨hge, -⟩
    · cases hl ▸ hk
      exact .surveyed d rfl hok
    · exact absurd hge (Nat.not_le.mpr (Nat.two_pow_pos _))
  case h_2 hpos =>
    split at h <;> cases h
    case h_1.refl e _ => exact .recorded d rfl (by simp [hpos]) e 0
    case h_2.refl => exact .scanned .probe _ rfl (by simp [hpos])
  case h_3 hpos =>
    cases h
    unfold surveyRecord
    split
    · exact .recorded d rfl (by simp [hpos]) _ _
    · exact .recorded d rfl (by simp [hpos]) _ _
  all_goals cases h

/-- Every command's stretch, by the lemma of its meaning. -/
theorem exec_stretch (h : exec i s = .next t) : Stretch i s t := by
  cases i with
  | loadChain d => exact execLoadChain_stretch h
  | clearChain d => exact execClearChain_stretch h
  | deviceCount d => exact execDeviceCount_stretch h
  | totalIrLength d => exact execTotalIrLength_stretch h
  | totalDrLength d => exact execTotalDrLength_stretch h
  | deviceView d => exact execDeviceView_stretch h
  | writeIr d => exact execWriteIr_stretch h
  | readWriteIr d => exact execReadWriteIr_stretch h
  | verifyIrCapture d => exact execVerifyIrCapture_stretch h
  | writeDr d => exact execWriteDr_stretch h
  | readWriteDr d => exact execReadWriteDr_stretch h
  | currentDrLength d => exact execCurrentDrLength_stretch h
  | verifyDrLength d => exact execVerifyDrLength_stretch h
  | checkDr d => exact execCheckDr_stretch h
  | survey d => exact execSurvey_stretch h

end

end Sys2Proof.Machine
end

section
/-! What one step can do: the outcomes of the next input. -/

namespace Sys2Proof.Machine

/-! ### The registers of the windows lie within their windows -/

/-- R33: the index of a window's register is one the parameters give it. -/
def windowIndexOk (p : Config.Params) : HostReg → Prop
  | .tx k | .rx k => k < p.seqWords
  | .descIdcode i | .descIrlen i => i < p.maxDevices
  | _ => True

theorem lowReg_windowIndexOk (p : Config.Params) (a : Nat) : windowIndexOk p (lowReg a) := by
  unfold lowReg
  split <;> trivial

theorem regAt_windowIndexOk (p : Config.Params) (a : Nat) : windowIndexOk p (regAt p a) := by
  unfold regAt
  split_ifs with hlow htx hk hrx hk hi
  · exact lowReg_windowIndexOk p a
  · exact hk
  · trivial
  · exact hk
  · trivial
  · exact hi
  · exact hi
  · trivial

/-! ### One step -/

/-- What a host write stores while BUSY = 0 (R35 to R39, R49, R51). -/
inductive Stored (s : State) (v : Word) : State → Prop
  | cmd : Stored s v (accept v s)
  | txLen : Stored s v { s with txLen := v.extractLsb' 0 16 }
  | idle : Stored s v { s with idle := v }
  | expect : Stored s v { s with expect := v }
  | chainN (hconf : s.configured = false) : Stored s v { s with chainN := v.extractLsb' 0 16 }
  | tx (k : Nat) (hk : k < s.cfg.seqWords) : Stored s v { s with mem := writeWord s.mem (txBase + 4 * k) v }
  | descIdcode (i : Nat) (hi : i < s.cfg.maxDevices) (hconf : s.configured = false) :
      Stored s v { s with mem := writeWord s.mem (descBase + 8 * i) v }
  | descIrlen (i : Nat) (hi : i < s.cfg.maxDevices) (hconf : s.configured = false) :
      Stored s v { s with mem := writeWord s.mem (descBase + 8 * i + 4) (v &&& 0xFFFF#32) }

/-- Where a move of the controller or of the attached driver comes next: on a tick, a poll, a waitrec or no input. -/
def moveNext (next : Option Input) : Prop := next ∈ [none, some .tick, some .poll, some .waitRec]

/-- Every outcome of one step, from the state `s` with the input `next` (or none) taken out of its inbox. -/
inductive Transition (next : Option Input) (s : State) : State → Prop
  /-- Nothing of the controller changes: a read, a satisfied poll, an ignored write, a discarded response, an idle tick. -/
  | observed (v : Word) : Transition next s { s with readData := v }
  | overran (hbusy : s.busy = true) : Transition next s { s with overrun := true }
  | reset (hnext : next = some .reset) : Transition next s (resetInput s)
  | stored (hidle : s.busy = false) (v : Word) (t : State) (ht : Stored s v t) : Transition next s t
  /-- The response to the outstanding scan is taken: it names the last request, or it is the attached driver's. -/
  | responded (req : ScanReq) (r : Response) (drv : Driver) (hwait : s.phase = .waitScan req)
      (hsource : next = some (.respond s.issued r) ∨
        (moveNext next ∧ driverAnswer s.issued s.driver req = some (r, drv))) :
      Transition next s { s with phase := .running s.cmd, reply := replyOf req r, driver := drv }
  | illegal (w : Word) (why : Illegal) (hrun : s.phase = .running w) (hdec : decode w = .illegal why) :
      Transition next s (raise (illegalDetail why) s)
  | ran (w : Word) (i : Instr) (hrun : s.phase = .running w) (hdec : decode w = .command i) (t : State)
      (ht : Stretch i s t) : Transition next s t
  /-- A record is acknowledged and the survey ends, on STOP or after the last value. -/
  | surveyEnded (n : Nat) (hack : s.phase = .waitAck) :
      Transition next s (surveyFinish { s with phase := .running s.cmd, survCount := s.survCount + 1, survNext := n })
  /-- A record is acknowledged with NEXT and the survey goes on with the next value. -/
  | surveyWentOn (hack : s.phase = .waitAck) (hlt : s.survNext + 1 < 2 ^ irlen s s.survDev) :
      Transition next s (surveyScan
        { s with phase := .running s.cmd, survCount := s.survCount + 1, survNext := s.survNext + 1 })

section
variable {next : Option Input} {s t : State}

theorem Transition.unchanged : Transition next s s := .observed s.readData

theorem busy_iff : s.busy = true ↔ s.phase ≠ .idle := decide_eq_true_iff

theorem recValid_iff : s.recValid = true ↔ s.phase = .waitAck := decide_eq_true_iff

theorem busy_eq_false_iff : s.busy = false ↔ s.phase = .idle := by
  simp [State.busy]

theorem Transition.of_unlessBusy {k : Result} (h : unlessBusy s k = .next t)
    (hk : s.busy = false → k = .next t → Transition next s t) : Transition next s t := by
  rcases unlessBusy_cases (s := s) (k := k) with ⟨hbusy, hw⟩ | ⟨hidle, hw⟩
  · cases hw ▸ h
    exact .overran hbusy
  · exact hk hidle (hw ▸ h)

theorem Transition.of_stored {u : State} {v : Word} (h : unlessBusy s (.next u) = .next t) (hu : Stored s v u) :
    Transition next s t :=
  .of_unlessBusy h fun hidle hk => by
    cases hk
    exact .stored hidle v _ hu

theorem Transition.of_unlessConfigured {u : State} {v : Word} (hidle : s.busy = false)
    (h : unlessConfigured s u = .next t) (hu : s.configured = false → Stored s v u) : Transition next s t := by
  unfold unlessConfigured at h
  cases hconf : s.configured <;> rw [hconf] at h <;> cases h
  case false => exact .stored hidle v _ (hu hconf)
  case true => exact .unchanged

theorem acknowledge_transition {w : Word} (hack : s.phase = .waitAck) (h : acknowledge w s = .next t) :
    Transition next s t := by
  rcases acknowledge_cases w s with ⟨-, ha⟩ | ⟨-, -, ha⟩ | ⟨-, -, ha⟩ <;> rw [ha] at h
  · cases h
    exact .surveyEnded s.survNext hack
  · rcases surveyLoop_cases { s with phase := .running s.cmd, survCount := s.survCount + 1, survNext := s.survNext + 1 }
      with ⟨hlt, hl⟩ | ⟨-, hl⟩ <;> cases hl ▸ h
    · exact .surveyWentOn hack hlt
    · exact .surveyEnded (s.survNext + 1) hack
  · cases h
    exact .unchanged

theorem regWrite_transition {v : Word} {a : Nat} (h : regWrite s v (regAt s.cfg a) = .next t) : Transition next s t := by
  have hindex := regAt_windowIndexOk s.cfg a
  cases hreg : regAt s.cfg a <;> rw [hreg] at h hindex
  case cmd => exact .of_stored h .cmd
  case txLen => exact .of_stored h .txLen
  case idle => exact .of_stored h .idle
  case expect => exact .of_stored h .expect
  case tx k => exact .of_stored h (.tx k hindex)
  case chainN => exact .of_unlessBusy h fun hidle hk => .of_unlessConfigured hidle hk .chainN
  case descIdcode i => exact .of_unlessBusy h fun hidle hk => .of_unlessConfigured hidle hk (.descIdcode i hindex)
  case descIrlen i => exact .of_unlessBusy h fun hidle hk => .of_unlessConfigured hidle hk (.descIrlen i hindex)
  case survAck =>
    cases hrec : s.recValid <;> simp only [regWrite, hrec] at h
    · cases h
      exact .unchanged
    · exact acknowledge_transition (recValid_iff.mp hrec) h
  all_goals
    cases h
    exact .unchanged

theorem hostWrite_transition {addr size : Nat} {v : Word} (h : hostWrite addr size v s = .next t) :
    Transition next s t := by
  unfold hostWrite at h
  split at h
  · exact regWrite_transition h
  · cases h

theorem hostRead_transition {addr size : Nat} (h : hostRead addr size s = .next t) : Transition next s t := by
  unfold hostRead at h
  split at h
  · cases h
    exact .observed _
  · cases h

theorem portResponse_transition {serial : Nat} {r : Response} :
    Transition (some (.respond serial r)) s (portResponse serial r s) := by
  rcases portResponse_cases serial r s with ⟨req, hserial, hwait, hp⟩ | ⟨-, hp⟩ <;> rw [hp]
  · exact .responded req r _ hwait (.inl (by rw [hserial]))
  · exact .unchanged

theorem driverMove_transition {req : ScanReq} (hnext : moveNext next) (hwait : s.phase = .waitScan req) :
    Transition next s (driverMove req s) := by
  rcases driverMove_cases req s with ⟨-, hd⟩ | ⟨r, drv, hans, hd⟩ <;> rw [hd]
  · exact .unchanged
  · simp only [takeResponse, hwait]
    exact .responded req r drv hwait (.inr ⟨hnext, hans⟩)

theorem runWord_transition {w : Word} (hrun : s.phase = .running w) (h : runWord w s = .next t) :
    Transition next s t := by
  unfold runWord at h
  split at h
  case h_1 why hdec =>
    cases h
    exact .illegal w why hrun hdec
  case h_2 i hdec => exact .ran w i hrun hdec t (exec_stretch h)

theorem controllerStep_transition (hnext : moveNext next) (h : controllerStep s = .next t) : Transition next s t := by
  unfold controllerStep at h
  split at h
  case h_2 w hrun => exact runWord_transition hrun h
  case h_3 req hwait =>
    cases h
    exact driverMove_transition hnext hwait
  all_goals
    cases h
    exact .unchanged

/-- Every step is one of the transitions, on the state whose inbox the step has taken its input from (a poll or waitrec
that waits stays in the inbox, log 18). -/
theorem step_transition (h : step s = .next t) : ∃ rest, Transition s.inbox.head? { s with inbox := rest } t := by
  unfold step at h
  split at h
  case h_1 hin => exact ⟨s.inbox, controllerStep_transition (by simp [moveNext, hin]) h⟩
  case h_2 rest hin => exact ⟨rest, controllerStep_transition (by simp [moveNext, hin]) h⟩
  case h_3 rest hin => exact ⟨rest, hostWrite_transition h⟩
  case h_4 rest hin => exact ⟨rest, hostRead_transition h⟩
  case h_5 rest hin =>
    cases h
    exact ⟨rest, .reset (by rw [hin]; rfl)⟩
  case h_6 rest hin =>
    cases h
    rw [hin]
    exact ⟨rest, portResponse_transition⟩
  case h_7 rest hin =>
    split at h
    · cases h
      exact ⟨rest, .observed _⟩
    · exact ⟨s.inbox, controllerStep_transition (by simp [moveNext, hin]) h⟩
  case h_8 rest hin =>
    split at h
    · cases h
      exact ⟨rest, .observed _⟩
    · exact ⟨s.inbox, controllerStep_transition (by simp [moveNext, hin]) h⟩

end

end Sys2Proof.Machine
end

section
/-! The invariant of the legal states is kept by every step (R31, R52, R61, R62, R85, R180). -/

namespace Sys2Proof.Machine

/-! ### Memory stays within the windows -/

theorem mem_writeByte {c : Host.Cell} {a : Nat} {v : Byte} :
    ∀ {m : List Host.Cell}, c ∈ writeByte m a v → c.1 = a ∨ c ∈ m
  | [], h => by
    unfold writeByte at h
    split at h
    · exact .inr h
    · exact .inl (by rw [List.mem_singleton.mp h])
  | (k, b) :: m, h => by
    unfold writeByte at h
    split_ifs at h with hlt hv heq hv
    · exact .inr h
    · rcases List.mem_cons.mp h with rfl | hm
      · exact .inl rfl
      · exact .inr hm
    · exact .inr (List.mem_cons_of_mem _ h)
    · rcases List.mem_cons.mp h with rfl | hm
      · exact .inl rfl
      · exact .inr (List.mem_cons_of_mem _ hm)
    · rcases List.mem_cons.mp h with rfl | hm
      · exact .inr List.mem_cons_self
      · exact (mem_writeByte hm).imp_right (List.mem_cons_of_mem _)

theorem mem_writeWord {c : Host.Cell} {m : List Host.Cell} {a : Nat} {v : Word} (h : c ∈ writeWord m a v) :
    (a ≤ c.1 ∧ c.1 < a + 4) ∨ c ∈ m := by
  unfold writeWord at h
  rcases mem_writeByte h with h3 | h
  · exact .inl (by omega)
  rcases mem_writeByte h with h2 | h
  · exact .inl (by omega)
  rcases mem_writeByte h with h1 | h
  · exact .inl (by omega)
  rcases mem_writeByte h with h0 | h
  · exact .inl (by omega)
  · exact .inr h

theorem mem_writeBuffer {c : Host.Cell} {m : List Host.Cell} {base v : Nat} :
    ∀ {n : Nat}, c ∈ writeBuffer m base v n → (base ≤ c.1 ∧ c.1 < base + 4 * n) ∨ c ∈ m
  | 0, h => .inr h
  | n + 1, h => by
    rcases mem_writeWord h with hc | h
    · exact .inl (by omega)
    · exact (mem_writeBuffer h).imp_left fun hc => by omega

theorem mapped_iff {p : Config.Params} {a : Nat} :
    mapped p a = true ↔
      (txBase ≤ a ∧ a < txBase + 4 * p.seqWords) ∨ (rxBase ≤ a ∧ a < rxBase + 4 * p.seqWords) ∨
      (descBase ≤ a ∧ a < descBase + 8 * p.maxDevices) := by
  simp [mapped, or_assoc]

theorem MemOk.of_eq {s t : State} (h : MemOk s) (hcfg : t.cfg = s.cfg) (hmem : t.mem = s.mem) : MemOk t := by
  unfold MemOk
  rw [hcfg, hmem]
  exact h

theorem MemOk.writeWord {s : State} {a : Nat} {v : Word} (h : MemOk s)
    (hmap : ∀ b, a ≤ b → b < a + 4 → mapped s.cfg b = true) :
    MemOk { s with mem := Machine.writeWord s.mem a v } := by
  refine ⟨writeWord_wf a v h.1, fun c hc => ?_⟩
  rcases mem_writeWord hc with ⟨hlo, hhi⟩ | hc
  · exact hmap c.1 hlo hhi
  · exact h.2 c hc

theorem MemOk.putCapture {s : State} {n : Nat} {r : Bits} (h : MemOk s) : MemOk (putCapture n r s) := by
  refine ⟨writeBuffer_wf rxBase _ h.1 _, fun c hc => ?_⟩
  rcases mem_writeBuffer hc with hrx | hc
  · exact mapped_iff.mpr (.inr (.inl hrx))
  · exact h.2 c hc

theorem MemOk.accept {s : State} {w : Word} (h : MemOk s) : MemOk (accept w s) :=
  ⟨clearRange_wf _ _ h.1, fun c hc => h.2 c (List.mem_of_mem_filter hc)⟩

/-! ### What a memory operation leaves of the descriptor table and of the RX buffer -/

/-- R84: the RX window ends before the descriptor table. -/
theorem rx_below_desc {p : Config.Params} (h : p.wf = true) : rxBase + 4 * p.seqWords ≤ descBase := by
  obtain ⟨-, -, -, -, -, -, -, -, hwords⟩ := Params_wf_bounds h
  simp only [rxBase, descBase]
  omega

theorem tx_below_rx {p : Config.Params} (h : p.wf = true) : txBase + 4 * p.seqWords ≤ rxBase := by
  obtain ⟨-, -, -, -, -, -, -, -, hwords⟩ := Params_wf_bounds h
  simp only [txBase, rxBase]
  omega

theorem irlen_eq_of_desc_bytes {s t : State} (h : ∀ a, descBase ≤ a → readByte t.mem a = readByte s.mem a) (d : Nat) :
    irlen t d = irlen s d := by
  have hword : readWord t.mem (descBase + 8 * d + 4) = readWord s.mem (descBase + 8 * d + 4) :=
    readWord_congr fun j _ => h _ (by omega)
  simp only [irlen, descIrlen, hword]

theorem rxVal_eq_of_rx_bytes {s t : State} (hcfg : t.cfg = s.cfg)
    (h : ∀ a, inRx s a → readByte t.mem a = readByte s.mem a) : rxVal t = rxVal s := by
  unfold rxVal
  rw [hcfg]
  refine bufferValue_congr _ fun k hk => readWord_congr fun j hj => h _ ?_
  unfold inRx
  omega

theorem ChainOk.of_desc_bytes {s t : State} (h : ChainOk s) (hcfg : t.cfg = s.cfg) (hcount : t.chainN = s.chainN)
    (hconf : t.configured = true → s.configured = true)
    (hdesc : ∀ a, descBase ≤ a → readByte t.mem a = readByte s.mem a) : ChainOk t := by
  intro ht
  obtain ⟨hmax, hbad⟩ := h (hconf ht)
  rw [badDescriptor_false] at hbad
  rw [devCount_congr hcount, badDescriptor_false, hcfg]
  exact ⟨hmax, fun i hi => by rw [irlen_eq_of_desc_bytes hdesc]; exact hbad i hi⟩

theorem RxOk.of_rx_bytes {s t : State} (h : RxOk s) (hcfg : t.cfg = s.cfg) (hlen : t.rxLen = s.rxLen)
    (hrx : ∀ a, inRx s a → readByte t.mem a = readByte s.mem a) : RxOk t := by
  unfold RxOk
  rw [rxVal_eq_of_rx_bytes hcfg hrx, hlen]
  exact h

/-- R85: a capture of `n` bits leaves RX clear from bit `n` on. -/
theorem rxOk_putCapture {s : State} {n : Nat} {r : Bits} (hmem : Memory.wf s.mem = true) (hlen : r.length = n)
    (hn : n < 2 ^ 16) : RxOk (putCapture n r s) := by
  have hfield : (BitVec.ofNat 16 n).toNat = n := by rw [BitVec.toNat_ofNat]; exact Nat.mod_eq_of_lt hn
  calc rxVal (putCapture n r s)
      = toValue r % 2 ^ (32 * s.cfg.seqWords) := bufferValue_writeBuffer rxBase _ hmem _
    _ ≤ toValue r := Nat.mod_le _ _
    _ < 2 ^ r.length := toValue_lt r
    _ = 2 ^ (putCapture n r s).rxLen.toNat := by rw [putCapture_rxLen, hfield, hlen]

theorem rxOk_accept (w : Word) (s : State) : RxOk (accept w s) := by
  unfold RxOk rxVal
  rw [accept_mem, accept_cfg, bufferValue_clearRange]
  exact Nat.two_pow_pos _

/-! ### What a running command reads and what it has written -/

/-- `t` has in every field what `s` has that a running command reads: the arguments, the chain and the memory. -/
structure SameArguments (s t : State) : Prop where
  cfg : t.cfg = s.cfg
  cmd : t.cmd = s.cmd
  txLen : t.txLen = s.txLen
  idle : t.idle = s.idle
  expect : t.expect = s.expect
  chainN : t.chainN = s.chainN
  configured : t.configured = s.configured
  mem : t.mem = s.mem

/-- `t` has the result registers of `s` that acceptance cleared, all but SURV_* (R61). -/
structure SameResults (s t : State) : Prop where
  detail : t.detail = s.detail
  boolFlag : t.boolFlag = s.boolFlag
  rxLen : t.rxLen = s.rxLen
  result : t.result = s.result
  mmInstr : t.mmInstr = s.mmInstr
  mmObserved : t.mmObserved = s.mmObserved
  mmExpected : t.mmExpected = s.mmExpected
  dvIdcode : t.dvIdcode = s.dvIdcode
  dvIrlen : t.dvIrlen = s.dvIrlen
  dvIrlenBefore : t.dvIrlenBefore = s.dvIrlenBefore
  dvIrlenAfter : t.dvIrlenAfter = s.dvIrlenAfter
  dvDevsBefore : t.dvDevsBefore = s.dvDevsBefore
  dvDevsAfter : t.dvDevsAfter = s.dvDevsAfter

section
variable {s t : State}

theorem SameArguments.staticChecks (h : SameArguments s t) (i : Instr) :
    Machine.staticChecks i t = Machine.staticChecks i s := by
  have htx : txCount t = txCount s := by rw [txCount, txCount, h.txLen]
  have hconf : checkConfigured t = checkConfigured s := by rw [checkConfigured, checkConfigured, h.configured]
  have hdev : ∀ d, checkDev t d = checkDev s d := fun d => by rw [checkDev, checkDev, devCount_congr h.chainN]
  have hlen : checkTxLen t = checkTxLen s := by rw [checkTxLen, checkTxLen, h.cfg, htx]
  have hwidth : ∀ d, checkIrWidth t d = checkIrWidth s d := fun d => by
    rw [checkIrWidth, checkIrWidth, htx, irlen_congr h.mem]
  have htwo : ∀ d, checkIrlenTwo t d = checkIrlenTwo s d := fun d => by rw [checkIrlenTwo, checkIrlenTwo, irlen_congr h.mem]
  have hexpect : checkExpect t = checkExpect s := by rw [checkExpect, checkExpect, h.cfg, h.expect]
  have hown : ownChecks i t = ownChecks i s := by
    cases i <;> simp only [ownChecks, hwidth, htwo, hexpect, h.configured, h.cfg, devCount_congr h.chainN,
      badDescriptor_congr h.mem h.cfg]
  simp only [Machine.staticChecks, hown, hconf, hdev, hlen]

theorem SameArguments.scanAt (h : SameArguments s t) (hnext : t.survNext = s.survNext) (i : Instr) (p : Pos) :
    Machine.scanAt i t p = Machine.scanAt i s p := by
  have hpad := fun d b => padIR_congr h.mem h.chainN d b
  have hpadDr := fun d b => padDR_congr h.chainN d b
  unfold Machine.scanAt
  simp only [probeReq_congr h.cfg, hpad, hpadDr, txArg_congr h.mem h.cfg h.txLen, irlen_congr h.mem, h.idle, h.expect, hnext]

theorem SameArguments.inCommand (h : SameArguments s t) (hdev : t.survDev = s.survDev) (hnext : t.survNext = s.survNext)
    (hcount : t.survCount = s.survCount) {i : Instr} (hi : InCommand i s) : InCommand i t := by
  obtain ⟨hdec, hok, hsurvey⟩ := hi
  refine ⟨h.cmd ▸ hdec, (h.staticChecks i).symm ▸ hok, ?_⟩
  cases i with
  | survey d =>
    simp only [surveyOk] at hsurvey ⊢
    rw [hdev, hnext, hcount, irlen_congr h.mem]
    exact hsurvey
  | _ => trivial

theorem SameResults.resultsClear (h : SameResults s t) (hs : ResultsClear s) (hbusy : s.busy = true) : ResultsClear t := by
  intro _
  rw [h.detail, h.boolFlag, h.rxLen, h.result, h.mmInstr, h.mmObserved, h.mmExpected, h.dvIdcode, h.dvIrlen,
    h.dvIrlenBefore, h.dvIrlenAfter, h.dvDevsBefore, h.dvDevsAfter]
  exact hs hbusy

/-- A step within a command keeps the invariant as far as the phase clause holds. -/
theorem Inv.carriedOn (h : Inv s) (hbusy : s.busy = true) (hargs : SameArguments s t) (hres : SameResults s t)
    (hphase : PhaseOk t) : Inv t where
  params := hargs.cfg ▸ h.params
  memory := h.memory.of_eq hargs.cfg hargs.mem
  chain := h.chain.of_desc_bytes hargs.cfg hargs.chainN (hargs.configured ▸ id) fun _ _ => by rw [hargs.mem]
  phase := hphase
  cleared := hres.resultsClear h.cleared hbusy
  rx := h.rx.of_rx_bytes hargs.cfg hres.rxLen fun _ _ => by rw [hargs.mem]

theorem PhaseOk.of_idle (hphase : t.phase = .idle) (hpos : t.pos = .start) : PhaseOk t := by
  simpa only [PhaseOk, hphase] using hpos

theorem ResultsClear.of_idle (hphase : t.phase = .idle) : ResultsClear t :=
  fun hbusy => absurd hphase (busy_iff.mp hbusy)

/-- A state at rest with the memory of a legal state is legal if its loaded chain is. -/
theorem Inv.atRestWith (h : Inv s) (hphase : t.phase = .idle) (hpos : t.pos = .start) (hcfg : t.cfg = s.cfg)
    (hmem : t.mem = s.mem) (hlen : t.rxLen = s.rxLen) (hchain : ChainOk t) : Inv t where
  params := hcfg ▸ h.params
  memory := h.memory.of_eq hcfg hmem
  chain := hchain
  phase := .of_idle hphase hpos
  cleared := .of_idle hphase
  rx := h.rx.of_rx_bytes hcfg hlen fun _ _ => by rw [hmem]

/-- A state at rest whose memory and chain are those of a legal state is legal. -/
theorem Inv.atRest (h : Inv s) (hphase : t.phase = .idle) (hpos : t.pos = .start) (hcfg : t.cfg = s.cfg)
    (hchainN : t.chainN = s.chainN) (hconf : t.configured = true → s.configured = true) (hmem : t.mem = s.mem)
    (hlen : t.rxLen = s.rxLen) : Inv t :=
  h.atRestWith hphase hpos hcfg hmem hlen (h.chain.of_desc_bytes hcfg hchainN hconf fun _ _ => by rw [hmem])

theorem ChainOk.of_unloaded (hconf : t.configured = false) : ChainOk t :=
  fun h => absurd h (by simp [hconf])

/-- `t` is at the same place of the same command as `s`. -/
structure SamePlace (s t : State) : Prop where
  phase : t.phase = s.phase
  pos : t.pos = s.pos
  reply : t.reply = s.reply
  survDev : t.survDev = s.survDev
  survNext : t.survNext = s.survNext
  survCount : t.survCount = s.survCount

theorem SamePlace.phaseOk (h : SamePlace s t) (hargs : SameArguments s t) (hs : PhaseOk s) : PhaseOk t := by
  have hin : ∀ {i}, InCommand i s → InCommand i t := hargs.inCommand h.survDev h.survNext h.survCount
  have hscan := hargs.scanAt h.survNext
  have hphase := h.phase
  unfold PhaseOk at hs ⊢
  cases hp : s.phase <;> simp only [hp] at hs hphase <;> simp only [hphase]
  case idle => rw [h.pos, hs]
  case running w =>
    obtain ⟨rfl, hstart | ⟨i, req, hi, hreq, hfits⟩⟩ := hs
    · exact ⟨hargs.cmd.symm, .inl (h.pos.trans hstart)⟩
    · exact ⟨hargs.cmd.symm, .inr ⟨i, req, hin hi, by rw [hscan, h.pos, hreq], by rw [h.reply, hfits]⟩⟩
  case waitScan req =>
    obtain ⟨i, hi, hreq⟩ := hs
    exact ⟨i, hin hi, by rw [hscan, h.pos, hreq]⟩
  case waitAck =>
    obtain ⟨hpos, d, hi⟩ := hs
    exact ⟨h.pos.trans hpos, d, hin hi⟩

/-- What only the bus, the inbox, the driver or OVERRUN shows does not touch the invariant. -/
theorem Inv.of_same (h : Inv s) (hargs : SameArguments s t) (hres : SameResults s t) (hplace : SamePlace s t) : Inv t := by
  have hphase : PhaseOk t := hplace.phaseOk hargs h.phase
  by_cases hidle : s.phase = .idle
  · have htidle : t.phase = .idle := hplace.phase.trans hidle
    have htpos : t.pos = .start := by simpa only [PhaseOk, htidle] using hphase
    exact h.atRest htidle htpos hargs.cfg hargs.chainN (hargs.configured ▸ id) hargs.mem hres.rxLen
  · exact h.carriedOn (busy_iff.mpr hidle) hargs hres hphase

/-! ### Within a command -/

/-- A command past its start is the one the invariant names. -/
theorem PhaseOk.inCommand {w : Word} {i : Instr} (h : PhaseOk s) (hrun : s.phase = .running w)
    (hdec : decode w = .command i) (hpos : s.pos ≠ .start) :
    InCommand i s ∧ ∃ req, scanAt i s s.pos = some req ∧ replyFits req s.reply = true := by
  simp only [PhaseOk, hrun] at h
  obtain ⟨rfl, hstart | ⟨j, req, hj, hreq, hfits⟩⟩ := h
  · exact absurd hstart hpos
  · cases hj.1.symm.trans hdec
    exact ⟨hj, req, hreq, hfits⟩

theorem PhaseOk.decode_cmd {w : Word} {i : Instr} (h : PhaseOk s) (hrun : s.phase = .running w)
    (hdec : decode w = .command i) : decode s.cmd = .command i := by
  simp only [PhaseOk, hrun] at h
  rw [← h.1, hdec]

/-- R180: LOAD_CHAIN's checks are the bounds of a loaded chain. -/
theorem chain_fits_of_loadChain_checks {d : Nat} (hok : firstError (staticChecks (.loadChain d) s) = none) :
    devCount s ≤ s.cfg.maxDevices ∧ badDescriptor s (devCount s) = false := by
  have hchecks := firstError_none.mp hok
  have hcount := hchecks (decide (s.cfg.maxDevices < devCount s), .chainN) (by simp [staticChecks, ownChecks])
  have hdesc := hchecks (badDescriptor s (devCount s), .descIrlen) (by simp [staticChecks, ownChecks])
  exact ⟨Nat.not_lt.mp (of_decide_eq_false hcount), hdesc⟩

theorem scanAt_start (i : Instr) (s : State) : scanAt i s .start = none := by
  cases i <;> rfl

theorem phaseOk_issue {i : Instr} {p : Pos} {req : ScanReq} (hi : InCommand i s) (hscan : scanAt i s p = some req) :
    PhaseOk (issue p req s) := by
  have hargs : SameArguments s (issue p req s) := by constructor <;> rfl
  exact ⟨i, hargs.inCommand rfl rfl rfl hi, (hargs.scanAt rfl i p).trans hscan⟩

theorem Inv.issue {i : Instr} {p : Pos} {req : ScanReq} (h : Inv s) (hbusy : s.busy = true) (hi : InCommand i s)
    (hscan : scanAt i s p = some req) : Inv (issue p req s) :=
  h.carriedOn hbusy (by constructor <;> rfl) (by constructor <;> rfl) (phaseOk_issue hi hscan)

/-- R260: the loop head's scan, from a state that is `s` but for its cursor and its phase. -/
theorem Inv.surveyScan {d : Nat} (h : Inv s) (hbusy : s.busy = true) (hargs : SameArguments s t) (hres : SameResults s t)
    (hdec : decode s.cmd = .command (.survey d)) (hok : firstError (staticChecks (.survey d) s) = none)
    (hcursor : surveyOk (.survey d) t) : Inv (surveyScan t) := by
  have hin : InCommand (.survey d) t := ⟨hargs.cmd ▸ hdec, (hargs.staticChecks _).symm ▸ hok, hcursor⟩
  have hphase : PhaseOk (Machine.surveyScan t) :=
    phaseOk_issue hin (by rw [Machine.scanAt, hcursor.1])
  exact h.carriedOn hbusy { hargs with } { hres with } hphase

/-- R94: a capture as long as its scan, stripped, has the length the command expects. -/
theorem Stripped.length_eq {i : Instr} {req : ScanReq} {pre n post : Nat} {r : Bits} (h : Stripped i s req pre n post r)
    (hok : firstError (staticChecks i s) = none) (hfits : replyFits req s.reply = true) : r.length = n := by
  obtain ⟨o, ho, hr⟩ := h.strip
  have hlen := strip_length hr
  have hbits := h.bits hok
  simp only [replyFits, ho, h.capture, if_true, decide_eq_true_eq] at hfits
  omega

theorem readByte_putCapture_other {n a : Nat} {r : Bits} (ha : ¬ inRx s a) :
    readByte (putCapture n r s).mem a = readByte s.mem a := by
  rw [putCapture_mem]
  exact readByte_writeBuffer_other _ _ _ _ _ (by unfold inRx at ha; omega)

theorem not_inRx_of_descBase_le {a : Nat} (hwf : s.cfg.wf = true) (ha : descBase ≤ a) : ¬ inRx s a := by
  have hend := rx_below_desc hwf
  unfold inRx
  omega

theorem Inv.captured {n : Nat} {r : Bits} (h : Inv s) (hlen : r.length = n) (hn : n < 2 ^ 16) (verdict : Bool) :
    Inv (finish { putCapture n r s with boolFlag := verdict }) where
  params := h.params
  memory := (h.memory.putCapture (n := n) (r := r)).of_eq rfl rfl
  chain := h.chain.of_desc_bytes rfl rfl id fun _ ha =>
    readByte_putCapture_other (n := n) (not_inRx_of_descBase_le h.params ha)
  phase := .of_idle rfl rfl
  cleared := .of_idle rfl
  rx := rxOk_putCapture h.memory.1 hlen hn

/-- Every stretch of a running command keeps the invariant. -/
theorem Inv.stretch {w : Word} {i : Instr} (h : Inv s) (hrun : s.phase = .running w) (hdec : decode w = .command i)
    (ht : Stretch i s t) : Inv t := by
  have hbusy : s.busy = true := busy_iff.mpr (by simp [hrun])
  have hcmd := h.phase.decode_cmd hrun hdec
  cases ht with
  | raised e => exact h.atRest rfl rfl rfl rfl id rfl rfl
  | mismatched b c => exact h.atRest rfl rfl rfl rfl id rfl rfl
  | completed => exact h.atRest rfl rfl rfl rfl id rfl rfl
  | cleared d hi => exact h.atRest rfl rfl rfl rfl nofun rfl rfl
  | loaded d hi hok =>
    subst hi
    obtain ⟨hcount, hdesc⟩ := chain_fits_of_loadChain_checks hok
    exact h.atRestWith rfl rfl rfl rfl rfl fun _ =>
      ⟨hcount, (badDescriptor_congr (s := s) (t := finish { s with configured := true }) rfl rfl _).trans hdesc⟩
  | captured req pre n post r verdict hr =>
    have hpos : s.pos ≠ .start := fun hstart => by
      have hscan := hr.scan
      rw [hstart, scanAt_start] at hscan
      cases hscan
    obtain ⟨⟨-, hok, -⟩, req', hreq, hfits⟩ := h.phase.inCommand hrun hdec hpos
    cases hr.scan.symm.trans hreq
    have hn : n < 2 ^ 16 := by
      obtain ⟨-, -, -, -, -, hseq, -⟩ := Params_wf_bounds h.params
      rcases hr.fits hok with hn | hn <;> omega
    exact h.captured (hr.length_eq hok hfits) hn verdict
  | scanned p req hscan hstart =>
    by_cases hpos : s.pos = .start
    · obtain ⟨hok, hcursor⟩ := hstart hpos
      exact h.issue hbusy ⟨hcmd, hok, hcursor⟩ hscan
    · exact h.issue hbusy (h.phase.inCommand hrun hdec hpos).1 hscan
  | surveyed d hi hok =>
    subst hi
    exact h.surveyScan hbusy (by constructor <;> rfl) (by constructor <;> rfl) hcmd hok ⟨rfl, Nat.two_pow_pos _, rfl⟩
  | recorded d hi hpos e c =>
    subst hi
    have hin := (h.phase.inCommand hrun hdec hpos).1
    have hargs : SameArguments s (emitRecord e c s) := by constructor <;> rfl
    exact h.carriedOn hbusy hargs (by constructor <;> rfl) ⟨rfl, d, hargs.inCommand rfl rfl rfl hin⟩

/-! ### Host writes at rest, responses, acknowledgements and the reset -/

theorem Inv.accept (h : Inv s) (w : Word) : Inv (accept w s) where
  params := h.params
  memory := h.memory.accept
  chain := h.chain.of_desc_bytes rfl rfl id fun a ha => by
    have houtside : ¬ inRx s a := not_inRx_of_descBase_le h.params ha
    rw [accept_mem, readByte_clearRange]
    exact if_neg houtside
  phase := ⟨rfl, .inl rfl⟩
  cleared := fun _ => ⟨rfl, rfl, rfl, rfl, rfl, rfl, rfl, rfl, rfl, rfl, rfl, rfl, rfl⟩
  rx := rxOk_accept w s

/-- A word written at rest, into a window other than RX. -/
theorem Inv.wroteWord {a : Nat} {v : Word} (h : Inv s) (hidle : s.phase = .idle) (hpos : s.pos = .start)
    (hmap : ∀ b, a ≤ b → b < a + 4 → mapped s.cfg b = true) (hrx : a + 4 ≤ rxBase ∨ rxBase + 4 * s.cfg.seqWords ≤ a)
    (hchain : ChainOk { s with mem := writeWord s.mem a v }) : Inv { s with mem := writeWord s.mem a v } where
  params := h.params
  memory := h.memory.writeWord hmap
  chain := hchain
  phase := .of_idle hidle hpos
  cleared := .of_idle hidle
  rx := h.rx.of_rx_bytes rfl rfl fun b hb => readByte_writeWord_other _ _ (by unfold inRx at hb; omega)

theorem Inv.stored {v : Word} (h : Inv s) (hbusy : s.busy = false) (ht : Stored s v t) : Inv t := by
  have hidle : s.phase = .idle := busy_eq_false_iff.mp hbusy
  have hpos : s.pos = .start := by simpa only [PhaseOk, hidle] using h.phase
  have hdesc := rx_below_desc h.params
  have htx := tx_below_rx h.params
  cases ht with
  | cmd => exact h.accept v
  | txLen => exact h.atRest hidle hpos rfl rfl id rfl rfl
  | idle => exact h.atRest hidle hpos rfl rfl id rfl rfl
  | expect => exact h.atRest hidle hpos rfl rfl id rfl rfl
  | chainN hconf => exact h.atRestWith hidle hpos rfl rfl rfl (.of_unloaded hconf)
  | tx k hk =>
    have hchain := h.chain.of_desc_bytes (t := { s with mem := writeWord s.mem (txBase + 4 * k) v }) rfl rfl id
      fun b hb => readByte_writeWord_other _ _ (by omega)
    exact h.wroteWord hidle hpos (fun b _ _ => mapped_iff.mpr (.inl (by omega))) (by omega) hchain
  | descIdcode i hi hconf =>
    exact h.wroteWord hidle hpos (fun b _ _ => mapped_iff.mpr (.inr (.inr (by omega)))) (by omega) (.of_unloaded hconf)
  | descIrlen i hi hconf =>
    exact h.wroteWord hidle hpos (fun b _ _ => mapped_iff.mpr (.inr (.inr (by omega)))) (by omega) (.of_unloaded hconf)

theorem Inv.responded {req : ScanReq} (h : Inv s) (hwait : s.phase = .waitScan req) (r : Response) (drv : Driver) :
    Inv { s with phase := .running s.cmd, reply := replyOf req r, driver := drv } := by
  have hphase := h.phase
  simp only [PhaseOk, hwait] at hphase
  obtain ⟨i, hin, hscan⟩ := hphase
  have hargs : SameArguments s { s with phase := .running s.cmd, reply := replyOf req r, driver := drv } := by
    constructor <;> rfl
  exact h.carriedOn (busy_iff.mpr (by simp [hwait])) hargs (by constructor <;> rfl)
    ⟨rfl, .inr ⟨i, req, hargs.inCommand rfl rfl rfl hin, (hargs.scanAt rfl i _).trans hscan, replyOf_fits req r⟩⟩

theorem Inv.surveyWentOn (h : Inv s) (hack : s.phase = .waitAck) (hlt : s.survNext + 1 < 2 ^ irlen s s.survDev) :
    Inv (Machine.surveyScan
      { s with phase := .running s.cmd, survCount := s.survCount + 1, survNext := s.survNext + 1 }) := by
  have hphase := h.phase
  simp only [PhaseOk, hack] at hphase
  obtain ⟨-, d, hdec, hok, rfl, -, hcount⟩ := hphase
  exact h.surveyScan (busy_iff.mpr (by simp [hack])) (by constructor <;> rfl) (by constructor <;> rfl) hdec hok
    ⟨rfl, hlt, congrArg (· + 1) hcount⟩

theorem inv_resetInput (hwf : s.cfg.wf = true) : Inv (resetInput s) where
  params := hwf
  memory := ⟨rfl, nofun⟩
  chain := .of_unloaded rfl
  phase := .of_idle rfl rfl
  cleared := .of_idle rfl
  rx := by
    have hclear : rxVal (resetInput s) = 0 := bufferValue_clearRange [] rxBase _
    rw [RxOk, hclear]
    exact Nat.two_pow_pos _

theorem Inv.transition {next : Option Input} (h : Inv s) (ht : Transition next s t) : Inv t := by
  cases ht with
  | observed v => exact h.of_same (by constructor <;> rfl) (by constructor <;> rfl) (by constructor <;> rfl)
  | overran hbusy => exact h.of_same (by constructor <;> rfl) (by constructor <;> rfl) (by constructor <;> rfl)
  | reset hnext => exact inv_resetInput h.params
  | stored hidle v t ht => exact h.stored hidle ht
  | responded req r drv hwait hsource => exact h.responded hwait r drv
  | illegal w why hrun hdec => exact h.atRest rfl rfl rfl rfl id rfl rfl
  | ran w i hrun hdec t ht => exact h.stretch hrun hdec ht
  | surveyEnded n hack => exact h.atRest rfl rfl rfl rfl id rfl rfl
  | surveyWentOn hack hlt => exact h.surveyWentOn hack hlt

end

/-- Settles O51: the reset state is what the reset input makes of it, and the reference parameters are well formed. -/
theorem invHoldsAtReset : Obligations.InvHoldsAtReset := by
  have hwf : State.reset.cfg.wf = true := by decide
  exact inv_resetInput hwf

/-- Settles O52, by cases over what a step can do: each transition keeps the invariant. -/
theorem invKeptByEveryStep : Obligations.InvKeptByEveryStep := by
  unfold Obligations.InvKeptByEveryStep
  intro s t hinv hstep
  obtain ⟨rest, ht⟩ := step_transition hstep
  have hpopped : Inv { s with inbox := rest } :=
    hinv.of_same (by constructor <;> rfl) (by constructor <;> rfl) (by constructor <;> rfl)
  exact hpopped.transition ht

end Sys2Proof.Machine
end

section
/-! What every step keeps: one request at a time (R64, R95), the loaded chain (R52), and the arguments while BUSY = 1 (R63, R89). -/

namespace Sys2Proof.Machine

/-! ### The arguments and the memory outside RX -/

/-- `t` has the command word, the arguments and every byte outside the RX buffer of `s`. -/
structure KeepsArguments (s t : State) : Prop where
  cmd : t.cmd = s.cmd
  txLen : t.txLen = s.txLen
  idle : t.idle = s.idle
  expect : t.expect = s.expect
  chainN : t.chainN = s.chainN
  bytes : ∀ a, ¬ inRx s a → readByte t.mem a = readByte s.mem a

section
variable {next : Option Input} {i : Instr} {s t : State}

theorem KeepsArguments.of_mem_eq (hcmd : t.cmd = s.cmd) (htxLen : t.txLen = s.txLen) (hidle : t.idle = s.idle)
    (hexpect : t.expect = s.expect) (hchainN : t.chainN = s.chainN) (hmem : t.mem = s.mem) : KeepsArguments s t :=
  ⟨hcmd, htxLen, hidle, hexpect, hchainN, fun _ _ => by rw [hmem]⟩

theorem Stretch.keepsArguments (h : Stretch i s t) : KeepsArguments s t := by
  cases h with
  | captured req pre n post r verdict hr =>
    exact ⟨rfl, rfl, rfl, rfl, rfl, fun _ ha => readByte_putCapture_other (n := n) ha⟩
  | _ => exact .of_mem_eq rfl rfl rfl rfl rfl rfl

/-- R63, R89: but for the reset, only a host write taken while BUSY = 0 touches an argument, TX or the descriptor table. -/
theorem Transition.keepsArguments_or (h : Transition next s t) :
    KeepsArguments s t ∨ (next = some .reset ∧ t = resetInput s) ∨ (s.busy = false ∧ ∃ v, Stored s v t) := by
  cases h with
  | reset hnext => exact .inr (.inl ⟨hnext, rfl⟩)
  | stored hidle v t ht => exact .inr (.inr ⟨hidle, v, ht⟩)
  | ran w i hrun hdec t ht => exact .inl ht.keepsArguments
  | _ => exact .inl (.of_mem_eq rfl rfl rfl rfl rfl rfl)

/-- R39, R51: a host write while CONFIGURED = 1 leaves CHAIN_N and the descriptor table alone. -/
theorem Stored.keepsChain {v : Word} (h : Stored s v t) (hwf : s.cfg.wf = true) (hconf : s.configured = true) :
    t.chainN = s.chainN ∧ ∀ a, descBase ≤ a → readByte t.mem a = readByte s.mem a := by
  have hrx := rx_below_desc hwf
  have htx := tx_below_rx hwf
  cases h with
  | cmd =>
    refine ⟨rfl, fun a ha => ?_⟩
    rw [accept_mem, readByte_clearRange]
    exact if_neg (not_inRx_of_descBase_le hwf ha)
  | txLen | idle | expect => exact ⟨rfl, fun _ _ => rfl⟩
  | tx k hk => exact ⟨rfl, fun a ha => readByte_writeWord_other _ _ (by omega)⟩
  | chainN hfree | descIdcode i hi hfree | descIrlen i hi hfree => simp [hconf] at hfree

/-! ### CONFIGURED -/

/-- R52: a stretch keeps CONFIGURED, or completes LOAD_CHAIN, which sets it, or CLEAR_CHAIN, which clears it. -/
theorem Stretch.configured_cases (h : Stretch i s t) :
    t.configured = s.configured ∨
    (t.phase = .idle ∧ t.detail = s.detail ∧
      ((t.configured = true ∧ ∃ d, i = .loadChain d) ∨ (t.configured = false ∧ ∃ d, i = .clearChain d))) := by
  cases h with
  | loaded d hi hok => exact .inr ⟨rfl, rfl, .inl ⟨rfl, d, hi⟩⟩
  | cleared d hi => exact .inr ⟨rfl, rfl, .inr ⟨rfl, d, hi⟩⟩
  | _ => exact .inl rfl

theorem Stored.configured {v : Word} (h : Stored s v t) : t.configured = s.configured := by
  cases h <;> rfl

/-- R52: a step keeps CONFIGURED, or is the reset, or completes LOAD_CHAIN or CLEAR_CHAIN. -/
theorem Transition.configured_cases (h : Transition next s t) :
    t.configured = s.configured ∨ (next = some .reset ∧ t.configured = false) ∨
    ∃ w i, s.phase = .running w ∧ decode w = .command i ∧ t.phase = .idle ∧ t.detail = s.detail ∧
      ((t.configured = true ∧ ∃ d, i = .loadChain d) ∨ (t.configured = false ∧ ∃ d, i = .clearChain d)) := by
  cases h with
  | reset hnext => exact .inr (.inl ⟨hnext, rfl⟩)
  | stored hidle v t ht => exact .inl ht.configured
  | ran w i hrun hdec t ht => exact ht.configured_cases.imp_right fun hdone => .inr ⟨w, i, hrun, hdec, hdone⟩
  | _ => exact .inl rfl

/-! ### Requests on the port -/

theorem Stretch.issued_cases (h : Stretch i s t) :
    t.issued = s.issued ∨ (t.issued = s.issued + 1 ∧ ∃ req, t.phase = .waitScan req) := by
  cases h with
  | scanned p req hscan hstart => exact .inr ⟨rfl, req, rfl⟩
  | surveyed d hi hok => exact .inr ⟨rfl, _, rfl⟩
  | _ => exact .inl rfl

theorem Stored.issued {v : Word} (h : Stored s v t) : t.issued = s.issued := by
  cases h <;> rfl

/-- R64: a step issues at most one request, and none while one is outstanding. -/
theorem Transition.issued_cases (h : Transition next s t) :
    t.issued = s.issued ∨
      (t.issued = s.issued + 1 ∧ (∀ req, s.phase ≠ .waitScan req) ∧ ∃ req, t.phase = .waitScan req) := by
  cases h with
  | stored hidle v t ht => exact .inl ht.issued
  | ran w i hrun hdec t ht => exact ht.issued_cases.imp_right fun ⟨hcount, hwait⟩ => ⟨hcount, by simp [hrun], hwait⟩
  | surveyWentOn hack hlt => exact .inr ⟨rfl, by simp [hack], _, rfl⟩
  | _ => exact .inl rfl

/-- R95: an outstanding request stays outstanding but by its response or the reset. -/
theorem Transition.waitScan_cases {req : ScanReq} (h : Transition next s t) (hwait : s.phase = .waitScan req) :
    t.phase = .waitScan req ∨ (t.phase = .idle ∧ next = some .reset) ∨
    ∃ r : Response, t.phase = .running s.cmd ∧ t.reply = replyOf req r ∧
      (next = some (.respond s.issued r) ∨
        (moveNext next ∧ driverAnswer s.issued s.driver req = some (r, t.driver))) := by
  cases h with
  | observed v => exact .inl hwait
  | overran hbusy => exact .inl hwait
  | reset hnext => exact .inr (.inl ⟨rfl, hnext⟩)
  | responded req' r drv hwait' hsource =>
    cases hwait.symm.trans hwait'
    exact .inr (.inr ⟨r, rfl, rfl, hsource⟩)
  | stored hidle v t ht => exact absurd (hwait.symm.trans (busy_eq_false_iff.mp hidle)) nofun
  | illegal w why hrun hdec => exact absurd (hwait.symm.trans hrun) nofun
  | ran w i hrun hdec t ht => exact absurd (hwait.symm.trans hrun) nofun
  | surveyEnded n hack => exact absurd (hwait.symm.trans hack) nofun
  | surveyWentOn hack hlt => exact absurd (hwait.symm.trans hack) nofun

end

/-- Settles O55: only a stretch and an acknowledgement issue a request, neither in WaitScan, and WaitScan has the three ways out. -/
theorem oneScanIsOutstandingAtATime : Obligations.OneScanIsOutstandingAtATime := by
  unfold Obligations.OneScanIsOutstandingAtATime
  intro s t hstep
  obtain ⟨rest, ht⟩ := step_transition hstep
  exact ⟨ht.issued_cases, fun req hwait => ht.waitScan_cases hwait⟩

/-- Settles O56: a step that touches CHAIN_N or the descriptor table is the reset, which clears CONFIGURED, or a host write, which
CONFIGURED = 1 holds off. -/
theorem loadedChainNeverChanges : Obligations.LoadedChainNeverChanges := by
  unfold Obligations.LoadedChainNeverChanges
  intro s t hwf hconf htconf hstep
  obtain ⟨rest, ht⟩ := step_transition hstep
  rcases ht.keepsArguments_or with hkeep | ⟨-, rfl⟩ | ⟨-, v, hstored⟩
  · exact ⟨hkeep.chainN, fun a ha => hkeep.bytes a (not_inRx_of_descBase_le hwf ha)⟩
  · cases htconf
  · exact hstored.keepsChain hwf hconf

/-- Settles O57: CONFIGURED changes only by the reset and by the stretches that complete LOAD_CHAIN and CLEAR_CHAIN. -/
theorem onlyLoadAndClearChangeConfigured : Obligations.OnlyLoadAndClearChangeConfigured := by
  unfold Obligations.OnlyLoadAndClearChangeConfigured
  intro s t hstep
  obtain ⟨rest, ht⟩ := step_transition hstep
  rcases ht.configured_cases with hkeep | ⟨hnext, htconf⟩ |
    ⟨w, i, hrun, hdec, hidle, hdetail, ⟨htconf, d, rfl⟩ | ⟨htconf, d, rfl⟩⟩
  · rw [show t.configured = s.configured from hkeep]
    constructor <;> intro hconf hconf' <;> simp [hconf] at hconf'
  · exact ⟨by simp [htconf], fun _ _ => .inl hnext⟩
  · exact ⟨fun _ _ => ⟨w, d, hrun, hdec, hidle, hdetail⟩, by simp [htconf]⟩
  · exact ⟨by simp [htconf], fun _ _ => .inr ⟨w, d, hrun, hdec, hidle, hdetail⟩⟩

/-- Settles O58: while BUSY = 1 no host write is stored, so a step that is not the reset keeps the arguments. -/
theorem argumentsAreStableWhileBusy : Obligations.ArgumentsAreStableWhileBusy := by
  unfold Obligations.ArgumentsAreStableWhileBusy
  intro s t hbusy hnext hstep
  obtain ⟨rest, ht⟩ := step_transition hstep
  rcases ht.keepsArguments_or with ⟨hcmd, htxLen, hidle, hexpect, hchainN, hbytes⟩ | ⟨hreset, -⟩ | ⟨hfree, -⟩
  · exact ⟨hcmd, htxLen, hidle, hexpect, hchainN, hbytes⟩
  · exact absurd hreset hnext
  · exact absurd (hbusy.symm.trans hfree) nofun

/-- Settles O6, by what the inbox holds where the controller moves next: nothing, or a tick. -/
theorem stepRunsDecodedCommand : Obligations.StepRunsDecodedCommand := by
  unfold Obligations.StepRunsDecodedCommand
  intro s w i hrun hdec hmoves
  have hcontrol : ∀ u : State, u.phase = .running w → controllerStep u = exec i u := fun u hu => by
    simp only [controllerStep, hu, runWord, hdec]
  unfold controllerMoves at hmoves
  split at hmoves
  case h_1 hin =>
    have hpopped : popped s = s := by simp only [popped, hin, List.tail_nil]; rw [← hin]
    rw [hpopped, step, hin]
    exact hcontrol s hrun
  case h_2 rest hin =>
    rw [step, popped, hin]
    exact hcontrol _ hrun
  case h_3 => cases hmoves

end Sys2Proof.Machine
end

section
/-! The host interface: where each register stands (R33), what a read and a write of it do (R35 to R53, R63, R87), the reset
(R65, R320) and the STATUS word (R34). -/

namespace Sys2Proof.Machine

/-! ### The register map -/

section
variable {p : Config.Params} {a k i : Nat}

theorem admitted_iff : admitted a 4 = true ↔ a % 4 = 0 ∧ a < 0x4000 := by
  simp [admitted]

theorem regAt_low (ha : a < 0x1000) : regAt p a = lowReg a := if_pos ha

theorem regAt_tx (hwf : p.wf = true) (hk : k < p.seqWords) : regAt p (0x1000 + 4 * k) = .tx k := by
  have hrx := tx_below_rx hwf
  have hoffset : windowOffset (0x1000 + 4 * k) / 4 = k := by simp only [windowOffset, txBase, rxBase] at *; omega
  rw [regAt, if_neg (by simp only [txBase]; omega), if_pos (by simp only [txBase] at hrx; omega), hoffset, if_pos hk]

theorem regAt_rx (hwf : p.wf = true) (hk : k < p.seqWords) : regAt p (0x2000 + 4 * k) = .rx k := by
  have hdesc := rx_below_desc hwf
  have hoffset : windowOffset (0x2000 + 4 * k) / 4 = k := by simp only [windowOffset, rxBase, descBase] at *; omega
  rw [regAt, if_neg (by simp only [txBase]; omega), if_neg (by simp only [rxBase]; omega),
    if_pos (by simp only [rxBase] at hdesc; omega), hoffset, if_pos hk]

theorem regAt_desc (ha : 0x3000 ≤ a) :
    regAt p a = if windowOffset a / 8 < p.maxDevices then
      (if windowOffset a % 8 = 0 then .descIdcode (windowOffset a / 8) else .descIrlen (windowOffset a / 8))
    else .unmapped := by
  rw [regAt, if_neg (by simp only [txBase]; omega), if_neg (by simp only [rxBase]; omega),
    if_neg (by simp only [descBase]; omega)]

theorem regAt_descIdcode (hwf : p.wf = true) (hi : i < p.maxDevices) : regAt p (0x3000 + 8 * i) = .descIdcode i := by
  obtain ⟨-, hmax, -⟩ := Params_wf_bounds hwf
  have hoffset : windowOffset (0x3000 + 8 * i) = 8 * i := by simp only [windowOffset]; omega
  rw [regAt_desc (by omega), hoffset, Nat.mul_div_cancel_left i (by decide), if_pos hi, if_pos (by omega)]

theorem regAt_descIrlen (hwf : p.wf = true) (hi : i < p.maxDevices) : regAt p (0x3004 + 8 * i) = .descIrlen i := by
  obtain ⟨-, hmax, -⟩ := Params_wf_bounds hwf
  have hoffset : windowOffset (0x3004 + 8 * i) = 8 * i + 4 := by simp only [windowOffset]; omega
  have hindex : (8 * i + 4) / 8 = i := by omega
  rw [regAt_desc (by omega), hoffset, hindex, if_pos hi, if_neg (by omega)]

/-- R33: the table of the registers below the windows, as a list. -/
theorem lowReg_eq_lookup (a : Nat) : lowReg a =
    (([(0x000, HostReg.cmd), (0x004, .status), (0x008, .txLen), (0x00C, .idle), (0x010, .expect), (0x014, .chainN),
      (0x018, .rxLen), (0x01C, .result), (0x020, .mmInstr), (0x024, .mmObserved), (0x028, .mmExpected),
      (0x02C, .survIr), (0x030, .survStat), (0x034, .survDrlen), (0x038, .survAck), (0x040, .dvIdcode),
      (0x044, .dvIrlen), (0x048, .dvIrlenBefore), (0x04C, .dvIrlenAfter), (0x050, .dvDevsBefore),
      (0x054, .dvDevsAfter)].lookup a).getD .unmapped) := by
  unfold lowReg
  split
  case h_22 => rw [List.lookup_eq_none_iff.mpr (by simp_all), Option.getD_none]
  all_goals rfl

end

/-! ### Reads and writes of a register at its address -/

section
variable {s : State} {addr : Nat} {reg : HostReg} {v : Word}

theorem hostRead_reg (hadm : admitted addr 4 = true) (hreg : regAt s.cfg addr = reg) :
    hostRead addr 4 s = .next { s with readData := regRead s reg } := by
  rw [hostRead, if_pos hadm, hreg]

theorem hostWrite_reg (hadm : admitted addr 4 = true) (hreg : regAt s.cfg addr = reg) :
    hostWrite addr 4 v s = regWrite s v reg := by
  rw [hostWrite, if_pos hadm, hreg]

theorem unlessBusy_of_idle (h : s.busy = false) (k : Result) : unlessBusy s k = k := by
  simp [unlessBusy, h]

theorem unlessConfigured_of_configured (h : s.configured = true) (u : State) : unlessConfigured s u = .next s := by
  simp [unlessConfigured, h]

theorem unlessConfigured_of_unloaded (h : s.configured = false) (u : State) : unlessConfigured s u = .next u := by
  simp [unlessConfigured, h]

theorem regWrite_dropped (hbusy : s.busy = true) (hreg : droppedWhenBusy reg = true) :
    regWrite s v reg = .next { s with overrun := true } := by
  cases reg
  case cmd | txLen | idle | expect | chainN | tx | descIdcode | descIrlen => simp [regWrite, unlessBusy, hbusy]
  all_goals cases hreg

theorem regWrite_ignored (hreg : ignoresWrites reg = true) : regWrite s v reg = .next s := by
  cases reg
  case cmd | txLen | idle | expect | chainN | tx | descIdcode | descIrlen | survAck => cases hreg
  all_goals rfl

end

/-! ### The low half of a word -/

theorem toNat_and_low16 (v : Word) : (v &&& 0xFFFF#32).toNat = v.toNat % 65536 := by
  rw [BitVec.toNat_and]
  exact Nat.and_two_pow_sub_one_eq_mod v.toNat 16

theorem toNat_low16_and_low16 (v : Word) : ((v &&& 0xFFFF#32).extractLsb' 0 16).toNat = v.toNat % 65536 := by
  rw [BitVec.extractLsb'_toNat, toNat_and_low16, Nat.shiftRight_zero]
  exact Nat.mod_mod _ _

theorem setWidth_low16 (v : Word) : ((v &&& 0xFFFF#32).extractLsb' 0 16).setWidth 32 = v &&& 0xFFFF#32 := by
  apply BitVec.eq_of_toNat_eq
  rw [BitVec.toNat_setWidth, toNat_low16_and_low16, toNat_and_low16]
  omega

/-- R33: the offsets of the registers below the windows. -/
def lowOffsets : List Nat :=
  [0x000, 0x004, 0x008, 0x00C, 0x010, 0x014, 0x018, 0x01C, 0x020, 0x024, 0x028, 0x02C, 0x030, 0x034, 0x038, 0x040, 0x044,
    0x048, 0x04C, 0x050, 0x054]

theorem hostRead_lowOffset (s : State) {a : Nat} (ha : a ∈ lowOffsets) :
    hostRead a 4 s = .next { s with readData := regRead s (lowReg a) } := by
  have hrange : ∀ a ∈ lowOffsets, a % 4 = 0 ∧ a < 0x1000 := by decide
  obtain ⟨halign, hlow⟩ := hrange a ha
  exact hostRead_reg (admitted_iff.mpr ⟨halign, by omega⟩) (regAt_low hlow)

/-- Settles O9: where each register stands, then each read through the register at its address. -/
theorem registerMapFollowsTheTable : Obligations.RegisterMapFollowsTheTable := by
  unfold Obligations.RegisterMapFollowsTheTable
  intro p hwf
  obtain ⟨-, hmax, -, -, -, -, -, -, hwords⟩ := Params_wf_bounds hwf
  refine ⟨fun a ha => (regAt_low ha).trans (lowReg_eq_lookup a), fun k hk => ⟨regAt_tx hwf hk, regAt_rx hwf hk⟩,
    fun i hi => ⟨regAt_descIdcode hwf hi, regAt_descIrlen hwf hi⟩, ?_⟩
  rintro s rfl
  refine ⟨?_, fun k hk => ?_, fun i hi => ?_⟩
  · show ∀ av ∈ lowOffsets.map fun a => (a, regRead s (lowReg a)), hostRead av.1 4 s = .next { s with readData := av.2 }
    exact List.forall_mem_map.mpr fun a ha => hostRead_lowOffset s ha
  · have hk' : k < s.cfg.seqWords := hk
    exact ⟨hostRead_reg (admitted_iff.mpr (by omega)) (regAt_tx hwf hk),
      hostRead_reg (admitted_iff.mpr (by omega)) (regAt_rx hwf hk)⟩
  · refine ⟨hostRead_reg (admitted_iff.mpr (by omega)) (regAt_descIdcode hwf hi), ?_⟩
    have haddr : 0x3004 + 8 * i = descBase + 8 * i + 4 := by simp only [descBase]; omega
    rw [hostRead_reg (admitted_iff.mpr (by omega)) (regAt_descIrlen hwf hi), haddr]
    rfl

/-- Settles O10: acceptance is the state it names, with the RX buffer cleared. -/
theorem cmdWriteAccepts : Obligations.CmdWriteAccepts := by
  unfold Obligations.CmdWriteAccepts
  intro s v hidle
  refine ⟨(accept v s).mem, ?_, fun a ha => ?_, fun a ha => ?_⟩
  · rw [hostWrite_reg rfl (regAt_low (by decide))]
    exact unlessBusy_of_idle hidle _
  · rw [accept_mem, readByte_clearRange]
    exact if_pos ha
  · rw [accept_mem, readByte_clearRange]
    exact if_neg ha

/-- Settles O11, by the class of the register at the address. -/
theorem writesWhileBusyAreDropped : Obligations.WritesWhileBusyAreDropped := by
  unfold Obligations.WritesWhileBusyAreDropped
  intro s addr v hbusy hadm
  refine ⟨fun hreg => ?_, fun hreg => ?_, ?_, hostRead_reg hadm rfl⟩
  · rw [hostWrite_reg hadm rfl, regWrite_dropped hbusy hreg]
  · rw [hostWrite_reg hadm rfl, regWrite_ignored hreg]
  · rintro rfl
    rw [hostWrite_reg hadm (regAt_low (by decide))]
    rfl

/-- Settles O12: the three argument registers and a TX word, each at its address. -/
theorem argumentWritesStore : Obligations.ArgumentWritesStore := by
  unfold Obligations.ArgumentWritesStore
  intro s v hidle
  have hlow : ∀ {a reg}, a % 4 = 0 → a < 0x1000 → lowReg a = reg → hostWrite a 4 v s = regWrite s v reg :=
    fun h4 ha hreg => hostWrite_reg (admitted_iff.mpr (by omega)) ((regAt_low ha).trans hreg)
  refine ⟨(hlow (by decide) (by decide) rfl).trans (unlessBusy_of_idle hidle _),
    (hlow (by decide) (by decide) rfl).trans (unlessBusy_of_idle hidle _),
    (hlow (by decide) (by decide) rfl).trans (unlessBusy_of_idle hidle _), fun hwf hmem k hk => ?_⟩
  obtain ⟨-, -, -, -, -, -, -, -, hwords⟩ := Params_wf_bounds hwf
  have hreg := regAt_tx hwf hk
  refine ⟨writeWord s.mem (0x1000 + 4 * k) v, ?_, ?_, fun a ha => readByte_writeWord_other _ _ ha⟩
  · exact (hostWrite_reg (admitted_iff.mpr (by omega)) hreg).trans (unlessBusy_of_idle hidle _)
  · rw [hreg]
    exact readWord_writeWord_same _ _ hmem

/-- Settles O13: with no chain loaded, CHAIN_N and both descriptor words take what is written. -/
theorem descriptorWritesStore : Obligations.DescriptorWritesStore := by
  unfold Obligations.DescriptorWritesStore
  intro s v hidle hconf
  have hstore : ∀ u, unlessBusy s (unlessConfigured s u) = .next u := fun u =>
    (unlessBusy_of_idle hidle _).trans (unlessConfigured_of_unloaded hconf u)
  refine ⟨(hostWrite_reg rfl (regAt_low (by decide))).trans (hstore _), fun hwf hmem i hi => ?_⟩
  obtain ⟨-, hmax, -⟩ := Params_wf_bounds hwf
  constructor
  · have hreg := regAt_descIdcode hwf hi
    refine ⟨writeWord s.mem (descBase + 8 * i) v, ?_, ?_, readWord_writeWord_same _ _ hmem,
      fun a ha => readByte_writeWord_other _ _ ha⟩
    · exact (hostWrite_reg (admitted_iff.mpr (by omega)) hreg).trans (hstore _)
    · rw [hreg]
      exact readWord_writeWord_same _ _ hmem
  · have hreg := regAt_descIrlen hwf hi
    have haddr : 0x3004 + 8 * i = descBase + 8 * i + 4 := by simp only [descBase]; omega
    have hword := readWord_writeWord_same (descBase + 8 * i + 4) (v &&& 0xFFFF#32) hmem
    refine ⟨writeWord s.mem (descBase + 8 * i + 4) (v &&& 0xFFFF#32), ?_, ?_, ?_, fun a ha => ?_⟩
    · exact (hostWrite_reg (admitted_iff.mpr (by omega)) hreg).trans (hstore _)
    · rw [hreg, regRead, descIrlen, hword, setWidth_low16]
    · rw [irlen, descIrlen, hword, toNat_low16_and_low16]
    · exact readByte_writeWord_other _ _ (by omega)

/-- Settles O14: at 0x014 stands CHAIN_N, from 0x3000 on a descriptor word or nothing, and none of them takes the write. -/
theorem loadedChainIsReadOnly : Obligations.LoadedChainIsReadOnly := by
  unfold Obligations.LoadedChainIsReadOnly
  intro s v addr hconf hidle hadm haddr
  have hignored : ∀ u, unlessBusy s (unlessConfigured s u) = .next s := fun u =>
    (unlessBusy_of_idle hidle _).trans (unlessConfigured_of_configured hconf u)
  rcases haddr with rfl | haddr
  · exact (hostWrite_reg hadm (regAt_low (by decide))).trans (hignored _)
  · rw [hostWrite_reg hadm (regAt_desc haddr)]
    split_ifs
    · exact hignored _
    · exact hignored _
    · rfl

/-! ### The STATUS word -/

/-- R34, R43: the field each bit of an error word belongs to. -/
theorem errorFields_getLsbD (e : Detail) (k : Nat) :
    (errorFields e).getLsbD k =
      if k < 8 then false
      else if k < 11 then (errCode (errClass e)).getLsbD (k - 8)
      else if k < 16 then false
      else (detailCode e).getLsbD (k - 16) := by
  have herr : k - 8 < 3 ↔ k < 11 := by omega
  have hgap : k - 8 - 3 < 5 ↔ k < 16 := by omega
  have hdetail : k - 8 - 3 - 5 = k - 16 := by omega
  have htop : (if k - 16 < 8 then (detailCode e).getLsbD (k - 16) else false) = (detailCode e).getLsbD (k - 16) :=
    ite_eq_left_iff.mpr fun h => (BitVec.getLsbD_of_ge _ _ (Nat.not_lt.mp h)).symm
  simp only [errorFields, BitVec.getLsbD_append, BitVec.getLsbD_zero, herr, hgap, hdetail, htop]

/-- R34, R43: ERR and DETAIL, and the reserved bits around them. -/
theorem errorFields_extract (e : Detail) :
    (errorFields e).extractLsb' 5 3 = 0 ∧ (errorFields e).extractLsb' 8 3 = errCode (errClass e) ∧
    (errorFields e).extractLsb' 11 5 = 0 ∧ (errorFields e).extractLsb' 16 8 = detailCode e ∧
    (errorFields e).extractLsb' 24 8 = 0 := by
  refine ⟨?_, ?_, ?_, ?_, ?_⟩ <;>
    refine BitVec.eq_of_getLsbD_eq fun i hi => ?_ <;>
    rw [BitVec.getLsbD_extractLsb', errorFields_getLsbD, decide_eq_true hi, Bool.true_and]
  · rw [if_pos (by omega)]
    exact BitVec.getLsbD_zero.symm
  · rw [if_neg (by omega), if_pos (by omega), Nat.add_sub_cancel_left]
  · rw [if_neg (by omega), if_neg (by omega), if_pos (by omega)]
    exact BitVec.getLsbD_zero.symm
  · rw [if_neg (by omega), if_neg (by omega), if_neg (by omega), Nat.add_sub_cancel_left]
  · rw [if_neg (by omega), if_neg (by omega), if_neg (by omega), BitVec.getLsbD_of_ge _ _ (by omega)]
    exact BitVec.getLsbD_zero.symm

theorem flags_getLsbD (o b r c y : Bool) (k : Nat) :
    (0#27 ++ flagBit o ++ flagBit b ++ flagBit r ++ flagBit c ++ flagBit y : Word).getLsbD k =
      [y, c, r, b, o].getD k false := by
  have hhigh : ∀ (f : Bool) (j : Nat), (flagBit f).getLsbD j = (decide (j = 0) && f) := fun f j =>
    BitVec.getLsbD_ofBool f j
  simp only [BitVec.getLsbD_append, BitVec.getLsbD_zero, hhigh]
  match k with
  | 0 | 1 | 2 | 3 | 4 => simp
  | k + 5 => simp

theorem statusWord_flag (s : State) {k : Nat} (hk : k < 5) :
    (statusWord s).getLsbD k = [s.busy, s.configured, s.recValid, s.boolFlag, s.overrun].getD k false := by
  rw [statusWord, BitVec.getLsbD_or, flags_getLsbD, errorFields_getLsbD, if_pos (by omega), Bool.false_or]

theorem statusWord_extract (s : State) {a n : Nat} (ha : 5 ≤ a) :
    (statusWord s).extractLsb' a n = (errorFields s.detail).extractLsb' a n := by
  refine BitVec.eq_of_getLsbD_eq fun i _ => ?_
  rw [BitVec.getLsbD_extractLsb', BitVec.getLsbD_extractLsb', statusWord, BitVec.getLsbD_or, flags_getLsbD,
    List.getD_eq_default _ _ (by simp only [List.length_cons, List.length_nil]; omega), Bool.or_false]

/-- Settles O19: the flags below bit 5, and from there on the error word's fields. -/
theorem statusWordFields : Obligations.StatusWordFields := by
  unfold Obligations.StatusWordFields
  intro s
  have hflag := fun k hk => statusWord_flag s (k := k) hk
  obtain ⟨hlow, herr, hgap, hdetail, htop⟩ := errorFields_extract s.detail
  refine ⟨hflag 0 (by decide), hflag 1 (by decide), hflag 2 (by decide), hflag 3 (by decide), hflag 4 (by decide),
    ?_, ?_, ?_, ?_, ?_, busy_iff, recValid_iff⟩ <;> rw [statusWord_extract s (by decide)]
  · exact hlow
  · exact herr
  · exact hgap
  · exact hdetail
  · exact htop

/-! ### The reset -/

theorem readWord_nil (a : Nat) : readWord [] a = 0 := by
  simp [readWord, readByte, unlistedByte]

theorem errorFields_none : errorFields .none = 0 := by decide

theorem regRead_resetInput (s : State) (reg : HostReg) : regRead (resetInput s) reg = 0 := by
  cases reg
  case status =>
    have hbusy : (resetInput s).busy = false := busy_eq_false_iff.mpr rfl
    have hrec : (resetInput s).recValid = false := decide_eq_false nofun
    rw [regRead, statusWord, hbusy, hrec]
    show errorFields .none ||| (0#27 ++ flagBit false ++ flagBit false ++ flagBit false ++ flagBit false ++ flagBit false) = 0
    decide
  case survStat => exact errorFields_none
  case tx k | rx k | descIdcode k => exact readWord_nil _
  case descIrlen i =>
    show ((readWord [] _).extractLsb' 0 16).setWidth 32 = 0
    rw [readWord_nil]
    rfl
  all_goals rfl

/-- Settles O17: every register's reset value reads 0, whatever the state before. -/
theorem resetZeroesEveryRegister : Obligations.ResetZeroesEveryRegister := by
  unfold Obligations.ResetZeroesEveryRegister
  intro s addr _
  exact ⟨regRead_resetInput s _, rfl, rfl, rfl, rfl, regRead_resetInput State.reset _, rfl⟩

end Sys2Proof.Machine
end

section
/-! The step's inputs (log 1, R88), the accesses the interface admits (R81), the offsets no register stands at (R82) and the idle
controller (R298). -/

namespace Sys2Proof.Machine

/-! ### The next input -/

/-- Settles O7: each of the four inputs is an arm of the step. -/
theorem stepTakesTheNextInput : Obligations.StepTakesTheNextInput := by
  unfold Obligations.StepTakesTheNextInput
  intro s rest
  exact ⟨fun _ _ _ => rfl, fun _ _ => rfl, rfl, fun _ _ => rfl⟩

/-! ### Host accesses -/

section
variable {s : State} {addr size : Nat} {v : Word}

theorem admitted_size_iff : admitted addr size = true ↔ size = 4 ∧ addr % 4 = 0 ∧ addr < 0x4000 := by
  simp [admitted, and_assoc]

theorem unlessBusy_next {k : Result} (hk : ∃ t, k = .next t) : ∃ t, unlessBusy s k = .next t := by
  rcases unlessBusy_cases (s := s) (k := k) with ⟨-, hw⟩ | ⟨-, hw⟩ <;> rw [hw]
  · exact ⟨_, rfl⟩
  · exact hk

theorem surveyLoop_next (s : State) : ∃ t, surveyLoop s = .next t := by
  rcases surveyLoop_cases s with ⟨-, hl⟩ | ⟨-, hl⟩ <;> exact ⟨_, hl⟩

theorem acknowledge_next (v : Word) (s : State) : ∃ t, acknowledge v s = .next t := by
  rcases acknowledge_cases v s with ⟨-, ha⟩ | ⟨-, -, ha⟩ | ⟨-, -, ha⟩ <;> rw [ha]
  · exact ⟨_, rfl⟩
  · exact surveyLoop_next _
  · exact ⟨_, rfl⟩

/-- A host write to any register has a next state: no register stops the machine. -/
theorem regWrite_next (s : State) (v : Word) (reg : HostReg) : ∃ t, regWrite s v reg = .next t := by
  cases reg
  case cmd | txLen | idle | expect | tx | chainN | descIdcode | descIrlen => exact unlessBusy_next ⟨_, rfl⟩
  case survAck =>
    cases hrec : s.recValid <;> simp only [regWrite, hrec]
    · exact ⟨_, rfl⟩
    · exact acknowledge_next v s
  all_goals exact ⟨_, rfl⟩

end

/-- Settles O15: the interface's guard is R81's condition, and behind it every register answers. -/
theorem onlyAdmittedAccessesHaveAStep : Obligations.OnlyAdmittedAccessesHaveAStep := by
  unfold Obligations.OnlyAdmittedAccessesHaveAStep
  intro s addr size v
  rw [← admitted_size_iff]
  constructor
  · intro hout
    exact ⟨if_neg hout, if_neg hout⟩
  · intro hadm
    rw [hostWrite, if_pos hadm, hostRead, if_pos hadm]
    exact ⟨regWrite_next s v _, rfl⟩

/-! ### Unmapped offsets -/

section
variable {p : Config.Params} {addr k i : Nat}

theorem regAt_past_tx (hk : p.seqWords ≤ k) (ha : 0x1000 + 4 * k < 0x2000) : regAt p (0x1000 + 4 * k) = .unmapped := by
  have hoffset : windowOffset (0x1000 + 4 * k) / 4 = k := by simp only [windowOffset]; omega
  rw [regAt, if_neg (by simp only [txBase]; omega), if_pos (by simpa only [rxBase] using ha), hoffset,
    if_neg (Nat.not_lt.mpr hk)]

theorem regAt_past_rx (hk : p.seqWords ≤ k) (ha : 0x2000 + 4 * k < 0x3000) : regAt p (0x2000 + 4 * k) = .unmapped := by
  have hoffset : windowOffset (0x2000 + 4 * k) / 4 = k := by simp only [windowOffset]; omega
  rw [regAt, if_neg (by simp only [txBase]; omega), if_neg (by simp only [rxBase]; omega),
    if_pos (by simpa only [descBase] using ha), hoffset, if_neg (Nat.not_lt.mpr hk)]

theorem regAt_past_desc (hi : p.maxDevices ≤ i) (ha : addr = 0x3000 + 8 * i ∨ addr = 0x3004 + 8 * i)
    (htop : addr < 0x4000) : regAt p addr = .unmapped := by
  have hindex : windowOffset addr / 8 = i := by simp only [windowOffset]; omega
  rw [regAt_desc (by omega), hindex, if_neg (Nat.not_lt.mpr hi)]

end

/-- Settles O16: the ignored writes by the register's class, the zero reads by the register, and the words past the parameters
window by window. -/
theorem unmappedOffsetsReadZeroAndIgnoreWrites : Obligations.UnmappedOffsetsReadZeroAndIgnoreWrites := by
  unfold Obligations.UnmappedOffsetsReadZeroAndIgnoreWrites
  intro s addr v hadm
  obtain ⟨-, htop⟩ := admitted_iff.mp hadm
  refine ⟨fun hreg => ?_, ?_, ?_, fun i hi ha => regAt_past_desc hi ha htop⟩
  · rw [hostWrite_reg hadm rfl, regWrite_ignored hreg]
  · rintro (hreg | hreg) <;> exact hostRead_reg hadm hreg
  · rintro k hk (⟨rfl, ha⟩ | ⟨rfl, ha⟩)
    · exact regAt_past_tx hk ha
    · exact regAt_past_rx hk ha

/-! ### The idle controller -/

section
variable {s : State}

theorem controllerStep_idle (h : s.phase = .idle) : controllerStep s = .next s := by
  rw [controllerStep, h]

theorem portResponse_idle (h : s.phase = .idle) (serial : Nat) (r : Response) : portResponse serial r s = s := by
  rcases portResponse_cases serial r s with ⟨req, -, hwait, -⟩ | ⟨-, hp⟩
  · exact absurd (h.symm.trans hwait) nofun
  · exact hp

theorem pollDone_idle (h : s.phase = .idle) : pollDone s = true := by
  rw [pollDone, busy_eq_false_iff.mpr h, Bool.not_false]

theorem waitRecDone_idle (h : s.phase = .idle) : waitRecDone s = true := by
  rw [waitRecDone, busy_eq_false_iff.mpr h, Bool.not_false, Bool.or_true]

end

/-- Settles O59, by the next input: with none or a tick the controller has no move, a read puts its value on the bus, a response
finds no scan waiting, and poll and waitrec end at once. -/
theorem idleControllerTakesNoStep : Obligations.IdleControllerTakesNoStep := by
  unfold Obligations.IdleControllerTakesNoStep
  intro s t hidle hreset hwrite hstep
  unfold step at hstep
  split at hstep
  case h_1 hin =>
    rw [controllerStep_idle hidle] at hstep
    cases hstep
    rw [hin, List.tail_nil, ← hin]
  case h_2 rest hin =>
    rw [controllerStep_idle (s := { s with inbox := rest }) hidle] at hstep
    cases hstep
    rw [hin, List.tail_cons]
  case h_3 a n v rest hin => exact absurd (by rw [hin]; rfl) (hwrite a n v)
  case h_4 a n rest hin =>
    unfold hostRead at hstep
    split at hstep
    · cases hstep
      rw [hin, List.tail_cons]
    · cases hstep
  case h_5 rest hin => exact absurd (by rw [hin]; rfl) hreset
  case h_6 serial r rest hin =>
    rw [portResponse_idle (s := { s with inbox := rest }) hidle] at hstep
    cases hstep
    rw [hin, List.tail_cons]
  case h_7 rest hin =>
    rw [if_pos (pollDone_idle hidle)] at hstep
    cases hstep
    rw [hin, List.tail_cons, statusRead]
  case h_8 rest hin =>
    rw [if_pos (waitRecDone_idle hidle)] at hstep
    cases hstep
    rw [hin, List.tail_cons, statusRead]

end Sys2Proof.Machine
end

section
/-! A failed scan ends its command (R94, R97, R281). -/

namespace Sys2Proof.Machine

section
variable {i : Instr} {s : State} {req : ScanReq} {e : Detail}

theorem onReply_failed (h : s.reply = .failed e) (k : Bits → Result) : onReply s k = .next (raise e s) := by
  rw [onReply, h]

theorem onProbe_failed (h : s.reply = .failed e) (k : Nat → Result) : onProbe s k = .next (raise e s) := by
  rw [onProbe, probeOutcome, h]

theorem compareWidth_failed (h : s.reply = .failed e) (d : Nat) (k : Int → Result) :
    compareWidth d s k = .next (raise e s) := onProbe_failed h _

/-- R97, R281: at each place where a command other than SURVEY has a scan outstanding, its next line raises a failed reply's
error. -/
theorem exec_failed_reply (hsurvey : ∀ d, i ≠ .survey d) (hscan : scanAt i s s.pos = some req)
    (hreply : s.reply = .failed e) : exec i s = .next (raise e s) := by
  have hline := onReply_failed hreply
  have hprobe := onProbe_failed hreply
  have hcompare := compareWidth_failed hreply
  generalize hpos : s.pos = p at hscan
  cases i with
  | loadChain d | clearChain d | deviceCount d | totalIrLength d | deviceView d => cases p <;> cases hscan
  | totalDrLength d | currentDrLength d =>
    cases p <;> cases hscan
    case probe.refl => simp only [exec, execTotalDrLength, execCurrentDrLength, hpos, hprobe]
  | writeIr d | readWriteIr d | verifyIrCapture d =>
    cases p <;> cases hscan
    case ir.refl => simp only [exec, execWriteIr, execReadWriteIr, execVerifyIrCapture, hpos, hline]
  | writeDr d | readWriteDr d =>
    cases p <;> cases hscan
    case dr.refl => simp only [exec, execWriteDr, execReadWriteDr, hpos, hline]
  | verifyDrLength d =>
    cases p <;> cases hscan
    case ir.refl => simp only [exec, execVerifyDrLength, hpos, probeAfterIr, hline]
    case probe.refl => simp only [exec, execVerifyDrLength, hpos, hcompare]
  | checkDr d =>
    cases p <;> cases hscan
    case ir.refl => simp only [exec, execCheckDr, hpos, probeAfterIr, hline]
    case probe.refl => simp only [exec, execCheckDr, hpos, hcompare]
    case dr.refl => simp only [exec, execCheckDr, hpos, hline]
  | survey d => exact absurd rfl (hsurvey d)

/-- R95, R97: taking a response that the command sees as a failure, and then its next line, is raising the failure's error. -/
theorem exec_takeResponse_failed {r : Response} (hsurvey : ∀ d, i ≠ .survey d) (hwait : s.phase = .waitScan req)
    (hscan : scanAt i s s.pos = some req) (hfail : replyOf req r = .failed e) :
    exec i (takeResponse r s) = .next { s with phase := .idle, pos := .start, reply := .ok [], detail := e } := by
  have htake : takeResponse r s = { s with phase := .running s.cmd, reply := .failed e } := by
    simp only [takeResponse, hwait, hfail]
  have hargs : SameArguments s (takeResponse r s) := by rw [htake]; constructor <;> rfl
  have hscan' : scanAt i (takeResponse r s) (takeResponse r s).pos = some req := by
    rw [hargs.scanAt (by rw [htake]) i, htake]
    exact hscan
  rw [exec_failed_reply hsurvey hscan' (by rw [htake]), htake]
  rfl

end

/-- Settles O48: both responses are failed replies, and a failed reply is raised wherever the command waits. -/
theorem transportErrorsEndTheCommand : Obligations.TransportErrorsEndTheCommand := by
  unfold Obligations.TransportErrorsEndTheCommand
  intro i s req r hsurvey hwait hscan
  constructor
  · rintro rfl
    exact exec_takeResponse_failed hsurvey hwait hscan rfl
  · rintro o rfl hcapture hlength
    exact exec_takeResponse_failed hsurvey hwait hscan (by rw [replyOf, if_pos hcapture, if_neg hlength])

end Sys2Proof.Machine
end

section
/-! Bit sequences against integers and shift paths: the TX operand (R86), the probe (R187) and the delayed echo (R110). -/

namespace Sys2Proof.Machine

/-! ### The bits of an integer (R152, R153) -/

theorem getElem?_bitsOf (x : Nat) : ∀ {n p : Nat}, p < n → (bitsOf x n)[n - 1 - p]? = some (x.testBit p)
  | n + 1, p, hp => by
    rcases Nat.lt_succ_iff_lt_or_eq.mp hp with hlt | rfl
    · rw [show n + 1 - 1 - p = (n - 1 - p) + 1 by omega, bitsOf, List.getElem?_cons_succ]
      exact getElem?_bitsOf x hlt
    · rw [show p + 1 - 1 - p = 0 by omega, bitsOf, List.getElem?_cons_zero]

theorem toValue_bitsOf (x : Nat) : ∀ n, toValue (bitsOf x n) = x % 2 ^ n
  | 0 => by rw [pow_zero, Nat.mod_one]; rfl
  | n + 1 => by
    rw [bitsOf, toValue, bitsOf_length, toValue_bitsOf x n, Nat.mod_pow_succ, Nat.testBit_eq_decide_div_mod_eq]
    rcases Nat.mod_two_eq_zero_or_one (x / 2 ^ n) with h | h <;> simp [h, Nat.add_comm]

/-- Settles O24: the operand's bits and value are those of TXVAL below `n`, and TXVAL's bits are the buffer's. -/
theorem txOperandIsTheBufferValue : Obligations.TxOperandIsTheBufferValue := by
  unfold Obligations.TxOperandIsTheBufferValue
  intro s n
  refine ⟨txOperand_length s n, ?_, fun p hp => ?_, fun p => testBit_bufferValue s.mem txBase p s.cfg.seqWords⟩
  · rw [txOperand, toValue_bitsOf, Nat.mod_mod]
  · rw [txOperand, getElem?_bitsOf _ hp, Nat.testBit_mod_two_pow, decide_eq_true hp, Bool.true_and]

/-! ### Leading zeros and the probe's verdict (R187) -/

theorem leadingZeros_zeros_append (s : Bits) : ∀ n, leadingZeros (zeros n ++ s) = leadingZeros s + n
  | 0 => rfl
  | n + 1 => by
    show leadingZeros (zeros n ++ s) + 1 = leadingZeros s + (n + 1)
    rw [leadingZeros_zeros_append s n, Nat.add_assoc]

theorem leadingZeros_ones_append (s : Bits) {n : Nat} (hn : 0 < n) : leadingZeros (ones n ++ s) = 0 := by
  cases n with
  | zero => exact absurd hn (Nat.lt_irrefl 0)
  | succ n => rfl

theorem evaluateProbe_noEdge {m : Nat} {o : Bits} (h : leadingZeros o = 0) : evaluateProbe m o = .error .probeNoEdge := by
  rw [evaluateProbe, if_pos h]

/-- R187: a capture of `z` zeros, at most `M`, then `M` ones measures `M - z`. -/
theorem evaluateProbe_edge {m z : Nat} (c : Bits) (hz : 0 < z) (hm : z ≤ m) :
    evaluateProbe m (zeros z ++ (ones m ++ c)) = .ok (m - z) := by
  have hlead : leadingZeros (zeros z ++ (ones m ++ c)) = z := by
    rw [leadingZeros_zeros_append, leadingZeros_ones_append c (by omega), Nat.zero_add]
  have hrun : ((zeros z ++ (ones m ++ c)).drop z).take m = ones m := by
    rw [List.drop_left' (zeros_length z), List.take_left' (ones_length m)]
  rw [evaluateProbe]
  simp only [hlead, hrun]
  rw [if_neg (by omega), if_neg (by simp [hm])]

/-- R187: a TDO stuck at 0 shows more than `M` leading zeros. -/
theorem evaluateProbe_zeros {m : Nat} (hm : 1 ≤ m) : evaluateProbe m (zeros (2 * m)) = .error .probeInconsistent := by
  have hlead : leadingZeros (zeros (2 * m)) = 2 * m := by
    have h := leadingZeros_zeros_append [] (2 * m)
    rwa [List.append_nil, leadingZeros, Nat.zero_add] at h
  rw [evaluateProbe]
  simp only [hlead]
  rw [if_neg (by omega), if_pos (.inl (by omega))]

/-! ### A shift path (R105) -/

/-- R105: a path no longer than the scan is left with the scan's head, and gives the scan's tail, then its contents. -/
theorem shiftPath_of_le {s c : Bits} (h : c.length ≤ s.length) : shiftPath s c = (s.take c.length, s.drop c.length ++ c) := by
  have htail : (s.drop c.length ++ c).length ≤ s.length := by
    rw [List.length_append, List.length_drop]
    omega
  rw [shiftPath, List.take_append_of_le_length h, List.drop_append_of_le_length h, List.take_of_length_le htail]

theorem append_zeros_ones_take {m l : Nat} (h : l ≤ m) : (append (zeros m) (ones m)).take l = zeros l := by
  rw [append, List.take_append_of_le_length (by rwa [zeros_length]), zeros, List.take_replicate, Nat.min_eq_left h]
  rfl

theorem append_zeros_ones_drop {m l : Nat} (h : l ≤ m) :
    (append (zeros m) (ones m)).drop l = zeros (m - l) ++ ones m := by
  rw [append, List.drop_append_of_le_length (by rwa [zeros_length]), zeros, List.drop_replicate]
  rfl

theorem append_zeros_ones_drop_past {m l : Nat} (h : m ≤ l) :
    (append (zeros m) (ones m)).drop l = ones (2 * m - l) := by
  rw [append, List.drop_append, List.drop_of_length_le (by rwa [zeros_length]), List.nil_append, zeros_length, ones,
    List.drop_replicate, show m - (l - m) = 2 * m - l by omega]
  rfl

/-- Settles O31: a path of length L gives back the probe's sequence less its first L bits; below M that leaves the edge, from M
to 2M - 1 a run of ones at the head. -/
theorem probeMeasuresAPath : Obligations.ProbeMeasuresAPath := by
  unfold Obligations.ProbeMeasuresAPath
  intro m c hm
  have hlen : (append (zeros m) (ones m)).length = 2 * m := by rw [append_length, zeros_length, ones_length, Nat.two_mul]
  refine ⟨fun hshort => ?_, fun hlow hhigh => ?_, evaluateProbe_zeros hm, ?_⟩
  · rw [shiftPath_of_le (by omega), append_zeros_ones_take (by omega), append_zeros_ones_drop (by omega), List.append_assoc,
      evaluateProbe_edge c (by omega) (Nat.sub_le m _), Nat.sub_sub_self (by omega)]
    exact ⟨rfl, rfl⟩
  · rw [shiftPath_of_le (by omega), append_zeros_ones_drop_past hlow]
    exact evaluateProbe_noEdge (leadingZeros_ones_append c (by omega))
  · have h := leadingZeros_ones_append [] (show 0 < 2 * m by omega)
    rw [List.append_nil] at h
    exact evaluateProbe_noEdge h

/-! ### The delayed echo (R106, R110) -/

theorem captureIrOf_echo {dev : RefDevice} (h : dev.captureIr = none) : captureIrOf dev = dev.ir := by
  rw [captureIrOf, h, Option.getD_none]

/-- R110: a delayed-echo chain captures its IRs. -/
theorem flatMap_captureIrOf_echo {ds : List RefDevice} (h : ∀ dev ∈ ds, dev.captureIr = none) :
    ds.flatMap captureIrOf = ds.flatMap (·.ir) :=
  List.flatMap_congr fun dev hdev => captureIrOf_echo (h dev hdev)

/-- R106: cutting an IR path's new contents among the devices and joining the new IRs again gives the contents. -/
theorem flatMap_ir_updateDevices (len : RefDevice → Nat) : ∀ (ds : List RefDevice) (r : Bits),
    r.length = (ds.map len).sum → (updateDevices len putIr ds r).flatMap (·.ir) = r
  | [], r, h => (List.length_eq_zero_iff.mp h).symm
  | d :: ds, r, h => by
    rw [List.map_cons, List.sum_cons] at h
    rw [updateDevices, List.flatMap_cons, flatMap_ir_updateDevices len ds _ (by rw [List.length_drop]; omega)]
    exact List.take_append_drop _ r

theorem captureIr_updateDevices (len : RefDevice → Nat) : ∀ (ds : List RefDevice) (r : Bits),
    (∀ dev ∈ ds, dev.captureIr = none) → ∀ dev ∈ updateDevices len putIr ds r, dev.captureIr = none
  | [], _, _ => nofun
  | d :: ds, r, h => by
    rw [updateDevices, List.forall_mem_cons]
    obtain ⟨hhead, htail⟩ := List.forall_mem_cons.mp h
    exact ⟨hhead, captureIr_updateDevices len ds _ htail⟩

/-- R105, R106: an IR scan as long as the IR path captures the path's contents and leaves its own sequence there. -/
theorem chainScanIR_of_length {ds : List RefDevice} {s : Bits} (h : s.length = (ds.flatMap captureIrOf).length) :
    chainScanIR ds s =
      (updateDevices (fun dev => (captureIrOf dev).length) putIr ds s, ds.flatMap captureIrOf) := by
  rw [chainScanIR, shiftPath_of_le h.ge, ← h, List.take_length, List.drop_length, List.nil_append]

/-- R110: on a delayed-echo chain, the second of two IR scans as long as the IR path captures what the first one wrote. -/
theorem chainScanIR_echo {ds : List RefDevice} {a b : Bits} (hecho : ∀ dev ∈ ds, dev.captureIr = none)
    (ha : a.length = (ds.map fun dev => dev.ir.length).sum) (hb : b.length = a.length) :
    (chainScanIR (chainScanIR ds a).1 b).2 = a := by
  have hpath : a.length = (ds.flatMap captureIrOf).length := by
    rw [flatMap_captureIrOf_echo hecho, List.length_flatMap, ha]
  have hwrote : (chainScanIR ds a).1.flatMap captureIrOf = a := by
    rw [chainScanIR_of_length hpath, flatMap_captureIrOf_echo (captureIr_updateDevices _ ds a hecho)]
    exact flatMap_ir_updateDevices _ ds a (by rw [hpath, List.length_flatMap])
  rw [chainScanIR_of_length (by rw [hwrote, hb]), hwrote]

/-- R210: stripping what was padded gives it back. -/
theorem stripIR_padIR (s : State) (d : Nat) (b : Bits) : stripIR s d (padIR s d b) = some b := by
  have hdrop : (padIR s d b).drop (irlenBefore s d) = b ++ ones (irlenAfter s d) := by
    rw [padIR, appendOnes, append, append, List.append_assoc, List.drop_left' (ones_length _)]
  rw [stripIR, strip_of_le (by rw [padIR_length]; omega), hdrop, List.take_left']
  rw [padIR_length]
  omega

/-- Settles O60: both padded scans are as long as the IR path, so the second captures the first, which strips to `b`. -/
theorem echoReturnsThePreviousScan : Obligations.EchoReturnsThePreviousScan := by
  unfold Obligations.EchoReturnsThePreviousScan
  intro ds s d b x hecho hsum hd hb hx
  have hlen : ∀ y : Bits, y.length = irlen s d → (padIR s d y).length = totalIR s := fun y hy => by
    rw [padIR_length, hy, irlenBefore_add_irlen_add_irlenAfter hd]
  have hcapture := chainScanIR_echo hecho ((hlen b hb).trans hsum.symm) ((hlen x hx).trans (hlen b hb).symm)
  exact ⟨hcapture, hcapture.symm ▸ stripIR_padIR s d b⟩

end Sys2Proof.Machine
end

section
/-! The command word (R120 to R131): its fields as numbers, the opcode map, what a word decodes to, and the encoder's round trip. -/

namespace Sys2Proof

section
variable {w : Word} {i : Instr} {op d : Nat}

/-! ### The fields of a word (R120) -/

theorem fieldOp_toNat (w : Word) : (fieldOp w).toNat = w.toNat % 32 := by
  rw [fieldOp, BitVec.extractLsb'_toNat, Nat.shiftRight_zero]

theorem fieldRes0_toNat (w : Word) : (fieldRes0 w).toNat = w.toNat / 32 % 8 := by
  rw [fieldRes0, BitVec.extractLsb'_toNat, Nat.shiftRight_eq_div_pow]

theorem fieldDev_toNat (w : Word) : (fieldDev w).toNat = w.toNat / 256 % 256 := by
  rw [fieldDev, BitVec.extractLsb'_toNat, Nat.shiftRight_eq_div_pow]

theorem fieldRes1_toNat (w : Word) : (fieldRes1 w).toNat = w.toNat / 65536 := by
  have hw := w.isLt
  rw [fieldRes1, BitVec.extractLsb'_toNat, Nat.shiftRight_eq_div_pow]
  omega

/-- R124: RES0 (bits 7:5) or RES1 (bits 31:16) is not zero. -/
def ReservedSet (w : Word) : Prop := w.toNat / 32 % 8 ≠ 0 ∨ w.toNat / 65536 ≠ 0

theorem reservedSet_iff : ReservedSet w ↔ fieldRes0 w ≠ 0 ∨ fieldRes1 w ≠ 0 := by
  rw [ReservedSet, ← fieldRes0_toNat, ← fieldRes1_toNat]
  exact or_congr (not_congr (BitVec.toNat_eq (y := 0)).symm) (not_congr (BitVec.toNat_eq (y := 0)).symm)

/-! ### The row mask (R129): it keeps OP, RES0 and RES1 -/

theorem fieldOp_and_rowMask (w : Word) : fieldOp (w &&& rowMask) = fieldOp w := by
  have hmask : rowMask.extractLsb' 0 5 = BitVec.allOnes 5 := by decide
  rw [fieldOp, BitVec.extractLsb'_and, hmask, BitVec.and_allOnes, fieldOp]

theorem fieldRes0_and_rowMask (w : Word) : fieldRes0 (w &&& rowMask) = fieldRes0 w := by
  have hmask : rowMask.extractLsb' 5 3 = BitVec.allOnes 3 := by decide
  rw [fieldRes0, BitVec.extractLsb'_and, hmask, BitVec.and_allOnes, fieldRes0]

theorem fieldRes1_and_rowMask (w : Word) : fieldRes1 (w &&& rowMask) = fieldRes1 w := by
  have hmask : rowMask.extractLsb' 16 16 = BitVec.allOnes 16 := by decide
  rw [fieldRes1, BitVec.extractLsb'_and, hmask, BitVec.and_allOnes, fieldRes1]

theorem reservedSet_and_rowMask : ReservedSet (w &&& rowMask) ↔ ReservedSet w := by
  rw [reservedSet_iff, reservedSet_iff, fieldRes0_and_rowMask, fieldRes1_and_rowMask]

/-- R129: a word in the row of `op` has that OP value and zero reserved fields. -/
theorem fields_of_and_rowMask (hop : op < 32) (h : w &&& rowMask = BitVec.ofNat 32 op) :
    w.toNat % 32 = op ∧ ¬ ReservedSet w := by
  have hnat : (w &&& rowMask).toNat = op := by
    rw [h, BitVec.toNat_ofNat]
    omega
  rw [← fieldOp_toNat, ← reservedSet_and_rowMask, ← fieldOp_and_rowMask, fieldOp_toNat, ReservedSet, hnat]
  omega

/-! ### The opcode map (R122) -/

/-- R122: the OP values that are not reserved. -/
def opcodes : List Nat := [1, 2, 3, 4, 5, 6, 8, 9, 10, 16, 17, 18, 19, 20, 24]

theorem lt_of_mem_opcodes (h : op ∈ opcodes) : op < 32 := by
  have hall : ∀ o ∈ opcodes, o < 32 := by decide
  exact hall op h

theorem commandOf_eq_some_iff : commandOf op d = some i ↔ opcodeOf i = op ∧ i.dev = d := by
  constructor
  · intro h
    unfold commandOf at h
    split at h <;> cases h <;> exact ⟨rfl, rfl⟩
  · rintro ⟨rfl, rfl⟩
    cases i <;> rfl

theorem commandOf_eq_none_iff : commandOf op d = none ↔ op ∉ opcodes := by
  unfold commandOf
  split
  case h_16 => simp_all [opcodes]
  all_goals simp [opcodes]

theorem exists_commandOf_iff : (∃ i, commandOf op d = some i) ↔ op ∈ opcodes := by
  rw [← Option.ne_none_iff_exists', Ne, commandOf_eq_none_iff, not_not]

theorem opcodeOf_mem (i : Instr) : opcodeOf i ∈ opcodes :=
  exists_commandOf_iff.mp ⟨i, commandOf_eq_some_iff.mpr ⟨rfl, rfl⟩⟩

/-! ### What a word decodes to (R129) -/

theorem decode_of_none (h : commandOf (w.toNat % 32) (w.toNat / 256 % 256) = none) : decode w = .illegal .opcode := by
  rw [← fieldOp_toNat, ← fieldDev_toNat] at h
  rw [decode, h]

theorem decode_of_some (h : commandOf (w.toNat % 32) (w.toNat / 256 % 256) = some i) :
    (ReservedSet w ∧ decode w = .illegal .reservedField) ∨ (¬ ReservedSet w ∧ decode w = .command i) := by
  rw [← fieldOp_toNat, ← fieldDev_toNat] at h
  rw [decode, h, reservedSet_iff]
  by_cases hres : fieldRes0 w ≠ 0 ∨ fieldRes1 w ≠ 0
  · exact .inl ⟨hres, if_pos hres⟩
  · exact .inr ⟨hres, if_neg hres⟩

/-- R129, said once: the opcode is looked up first, and only for a defined one are the reserved fields read. -/
theorem decode_cases (w : Word) :
    (w.toNat % 32 ∉ opcodes ∧ decode w = .illegal .opcode) ∨
    (w.toNat % 32 ∈ opcodes ∧ ReservedSet w ∧ decode w = .illegal .reservedField) ∨
    (¬ ReservedSet w ∧ ∃ i, opcodeOf i = w.toNat % 32 ∧ i.dev = w.toNat / 256 % 256 ∧ decode w = .command i) := by
  cases h : commandOf (w.toNat % 32) (w.toNat / 256 % 256) with
  | none => exact .inl ⟨commandOf_eq_none_iff.mp h, decode_of_none h⟩
  | some i =>
    rcases decode_of_some h with ⟨hres, hdec⟩ | ⟨hres, hdec⟩
    · exact .inr (.inl ⟨exists_commandOf_iff.mp ⟨i, h⟩, hres, hdec⟩)
    · obtain ⟨hop, hdev⟩ := commandOf_eq_some_iff.mp h
      exact .inr (.inr ⟨hres, i, hop, hdev, hdec⟩)

theorem decode_eq_opcode_iff : decode w = .illegal .opcode ↔ w.toNat % 32 ∉ opcodes := by
  refine ⟨fun h => ?_, fun hop => decode_of_none (commandOf_eq_none_iff.mpr hop)⟩
  rcases decode_cases w with ⟨hop, -⟩ | ⟨-, -, hdec⟩ | ⟨-, i, -, -, hdec⟩
  · exact hop
  · cases h.symm.trans hdec
  · cases h.symm.trans hdec

theorem decode_eq_reservedField_iff :
    decode w = .illegal .reservedField ↔ w.toNat % 32 ∈ opcodes ∧ ReservedSet w := by
  constructor
  · intro h
    rcases decode_cases w with ⟨-, hdec⟩ | ⟨hop, hres, -⟩ | ⟨-, i, -, -, hdec⟩
    · cases h.symm.trans hdec
    · exact ⟨hop, hres⟩
    · cases h.symm.trans hdec
  · rintro ⟨hop, hres⟩
    obtain ⟨i, hi⟩ := exists_commandOf_iff.mpr hop
    rcases decode_of_some hi with ⟨-, hdec⟩ | ⟨hzero, -⟩
    · exact hdec
    · exact absurd hres hzero

theorem decode_eq_command_iff :
    decode w = .command i ↔ ¬ ReservedSet w ∧ opcodeOf i = w.toNat % 32 ∧ i.dev = w.toNat / 256 % 256 := by
  constructor
  · intro h
    rcases decode_cases w with ⟨-, hdec⟩ | ⟨-, -, hdec⟩ | ⟨hzero, j, hop, hdev, hdec⟩ <;> cases h.symm.trans hdec
    exact ⟨hzero, hop, hdev⟩
  · rintro ⟨hzero, hop, hdev⟩
    rcases decode_of_some (commandOf_eq_some_iff.mpr ⟨hop, hdev⟩) with ⟨hres, -⟩ | ⟨-, hdec⟩
    · exact absurd hres hzero
    · exact hdec

theorem exists_decode_iff : (∃ i, decode w = .command i) ↔ w.toNat % 32 ∈ opcodes ∧ ¬ ReservedSet w := by
  rcases decode_cases w with ⟨hop, hdec⟩ | ⟨hop, hres, hdec⟩ | ⟨hzero, i, hop, -, hdec⟩
  · simp [hop, hdec]
  · simp [hres, hdec]
  · exact ⟨fun _ => ⟨hop ▸ opcodeOf_mem i, hzero⟩, fun _ => ⟨i, hdec⟩⟩

/-! ### The encoder (R131) -/

theorem toNat_encode (h : i.wf = true) : (encode i).toNat = i.dev * 256 + opcodeOf i := by
  have hdev : i.dev < 256 := of_decide_eq_true h
  have hop := lt_of_mem_opcodes (opcodeOf_mem i)
  have hword : i.dev <<< 8 ||| opcodeOf i = i.dev * 256 + opcodeOf i := by
    rw [← Nat.shiftLeft_add_eq_or_of_lt (by omega), Nat.shiftLeft_eq]
  rw [encode, BitVec.toNat_ofNat, hword, Nat.mod_eq_of_lt (by omega)]

/-- R129, R131: the legal words are exactly the well-formed commands' words. -/
theorem decode_eq_command_iff_encode : decode w = .command i ↔ i.wf = true ∧ encode i = w := by
  rw [decode_eq_command_iff, ReservedSet]
  constructor
  · rintro ⟨hzero, hop, hdev⟩
    have hwf : i.wf = true := decide_eq_true (by omega)
    refine ⟨hwf, BitVec.eq_of_toNat_eq ?_⟩
    rw [toNat_encode hwf]
    omega
  · rintro ⟨hwf, rfl⟩
    have hdev : i.dev < 256 := of_decide_eq_true hwf
    have hop := lt_of_mem_opcodes (opcodeOf_mem i)
    rw [toNat_encode hwf]
    omega

/-- R129: masked with the row mask, the legal words and no others give an OP value that is not reserved. -/
theorem exists_decode_iff_and_rowMask :
    (∃ i, decode w = .command i) ↔ ∃ op ∈ opcodes, w &&& rowMask = BitVec.ofNat 32 op := by
  constructor
  · rintro ⟨i, hdec⟩
    obtain ⟨hwf, rfl⟩ := decode_eq_command_iff_encode.mp hdec
    exact ⟨opcodeOf i, opcodeOf_mem i,
      Laws.EncodesItsRow.of_opcode _ _ (lt_of_mem_opcodes (opcodeOf_mem i)) (of_decide_eq_true hwf)⟩
  · rintro ⟨op, hmem, hrow⟩
    obtain ⟨rfl, hzero⟩ := fields_of_and_rowMask (lt_of_mem_opcodes hmem) hrow
    exact exists_decode_iff.mpr ⟨hmem, hzero⟩

end

/-- Settles O1: a well-formed command's word is a legal word, and it is that command's. -/
theorem decodeInvertsEncode : Obligations.DecodeInvertsEncode := by
  unfold Obligations.DecodeInvertsEncode
  intro i hwf
  exact decode_eq_command_iff_encode.mpr ⟨hwf, rfl⟩

/-- Settles O2: a legal word's four fields are those of its command's word. -/
theorem encodeInvertsDecode : Obligations.EncodeInvertsDecode := by
  unfold Obligations.EncodeInvertsDecode
  intro w i hdec
  exact decode_eq_command_iff_encode.mp hdec

/-- Settles O3, outcome by outcome: the table's rows, the reserved opcode, the reserved fields, and the fields of a command. -/
theorem decodeFollowsTheOpcodeTable : Obligations.DecodeFollowsTheOpcodeTable := by
  unfold Obligations.DecodeFollowsTheOpcodeTable
  intro w
  refine ⟨exists_decode_iff_and_rowMask, decode_eq_opcode_iff, decode_eq_reservedField_iff, fun i hdec => ?_⟩
  obtain ⟨-, hop, hdev⟩ := decode_eq_command_iff.mp hdec
  exact ⟨hop, hdev⟩

end Sys2Proof

namespace Sys2Proof.Machine

/-! ### An illegal word's step (R284) -/

section
variable {s : State} {w : Word}

theorem step_of_controllerMoves (h : controllerMoves s = true) : step s = controllerStep (popped s) := by
  unfold controllerMoves at h
  split at h
  case h_1 hin =>
    have hpopped : popped s = s := by rw [popped, hin, List.tail_nil, ← hin]
    rw [hpopped, step, hin]
  case h_2 rest hin => rw [step, popped, hin, List.tail_cons]
  case h_3 => cases h

/-- R284: an illegal word raises its detail, and no scan is issued. -/
theorem step_of_illegal {why : Illegal} (hrun : s.phase = .running w) (hmoves : controllerMoves s = true)
    (hdec : decode w = .illegal why) : step s = .next (raise (illegalDetail why) (popped s)) := by
  have hphase : (popped s).phase = .running w := hrun
  rw [step_of_controllerMoves hmoves, controllerStep, hphase]
  simp only [runWord, hdec]

end

/-- Settles O8: the reserved OP values are those outside the opcode table, and raising writes the detail and completes. -/
theorem illegalWordsRaise : Obligations.IllegalWordsRaise := by
  unfold Obligations.IllegalWordsRaise
  intro s w hrun hmoves
  constructor
  · intro hreserved
    have hdisjoint : ∀ op ∈ [0, 7, 11, 12, 13, 14, 15, 21, 22, 23, 25, 26, 27, 28, 29, 30, 31], op ∉ opcodes := by decide
    exact step_of_illegal hrun hmoves (decode_eq_opcode_iff.mpr (hdisjoint _ hreserved))
  · intro hop hres
    exact step_of_illegal hrun hmoves (decode_eq_reservedField_iff.mpr ⟨hop, hres⟩)

/-! ### DEV of the chain commands (R125), and the error codes (R127, R128) -/

/-- Settles O5: the meaning of each of the five is a function of the state alone. -/
theorem chainCommandsIgnoreDev : Obligations.ChainCommandsIgnoreDev := by
  unfold Obligations.ChainCommandsIgnoreDev
  intro d e s
  exact ⟨rfl, rfl, rfl, rfl, rfl⟩

/-- Settles O20, by evaluating both codes at each of the 17 details. -/
theorem errorCodesAreTheTables : Obligations.ErrorCodesAreTheTables := by
  unfold Obligations.ErrorCodesAreTheTables
  decide

end Sys2Proof.Machine
end

section
/-! The Bit Sequence primitives against their laws (R162), integers (R152, R153) and pieces (R159). -/

namespace Sys2Proof.Machine

/-! ### Appending and dropping (R162) -/

/-- R158, R162: dropping the tail just appended. -/
theorem dropTail_append (a b : Bits) : dropTail (append a b) b.length = some a := by
  rw [dropTail, append_length, if_pos (Nat.le_add_left _ _), Nat.add_sub_cancel, append, List.take_left]

/-- R157, R162: dropping the head something was appended to. -/
theorem dropHead_append (a b : Bits) : dropHead (append a b) a.length = some b := by
  rw [dropHead, append_length, if_pos (Nat.le_add_right _ _), append, List.drop_left]

/-- Settles O21: a run repeats its bit, and each drop undoes its side of an append. -/
theorem primitiveLaws : Obligations.PrimitiveLaws := by
  unfold Obligations.PrimitiveLaws
  exact ⟨fun n => ⟨ones_length n, fun b => List.eq_of_mem_replicate, zeros_length n, fun b => List.eq_of_mem_replicate⟩,
    fun a b => ⟨append_length a b, dropTail_append a b, dropHead_append a b⟩⟩

/-! ### Integers and sequences (R152, R153) -/

/-- R152: a sequence of width `n` shows only the low `n` bits of its integer. -/
theorem bitsOf_congr {x y : Nat} : ∀ {n : Nat}, (∀ p < n, x.testBit p = y.testBit p) → bitsOf x n = bitsOf y n
  | 0, _ => rfl
  | n + 1, h => by
    rw [bitsOf, bitsOf, h n n.lt_succ_self, bitsOf_congr fun p hp => h p (Nat.lt_succ_of_lt hp)]

/-- R153: the head of a sequence is its integer's most significant bit. -/
theorem testBit_toValue_cons_head (b : Bool) (s : Bits) : (toValue (b :: s)).testBit s.length = b := by
  have hclear : (toValue s).testBit s.length = false := Nat.testBit_lt_two_pow (toValue_lt s)
  cases b with
  | false => rwa [toValue, if_neg Bool.false_ne_true, Nat.zero_add]
  | true => rw [toValue, if_pos rfl, Nat.testBit_two_pow_add_eq, hclear, Bool.not_false]

/-- R153: below its head a sequence's integer has the bits of the tail's. -/
theorem testBit_toValue_cons_tail (b : Bool) (s : Bits) {p : Nat} (hp : p < s.length) :
    (toValue (b :: s)).testBit p = (toValue s).testBit p := by
  cases b with
  | false => rw [toValue, if_neg Bool.false_ne_true, Nat.zero_add]
  | true => rw [toValue, if_pos rfl, Nat.testBit_two_pow_add_gt hp]

/-- R152, R153: writing a sequence's integer at its length gives the sequence. -/
theorem bitsOf_toValue : ∀ s : Bits, bitsOf (toValue s) s.length = s
  | [] => rfl
  | b :: s => by
    have htail : bitsOf (toValue (b :: s)) s.length = s :=
      (bitsOf_congr fun _ hp => testBit_toValue_cons_tail b s hp).trans (bitsOf_toValue s)
    rw [List.length_cons, bitsOf, testBit_toValue_cons_head, htail]

/-- Settles O22: the width check is the only failure, and `bitsOf` and `toValue` undo each other within the width. -/
theorem fromValueAndToValueAreInverse : Obligations.FromValueAndToValueAreInverse := by
  unfold Obligations.FromValueAndToValueAreInverse
  refine ⟨fun x n hx => if_neg (Nat.not_lt.mpr hx), fun x n hx => ?_, fun s => ?_⟩
  · exact ⟨bitsOf x n, fromValue_of_lt hx, bitsOf_length x n, (toValue_bitsOf x n).trans (Nat.mod_eq_of_lt hx)⟩
  · rw [fromValue_of_lt (toValue_lt s), bitsOf_toValue]

/-! ### Pieces (R159) -/

theorem splitPieces_length : ∀ (s : Bits) (ls : List Nat), (splitPieces s ls).length = ls.length
  | _, [] => rfl
  | s, l :: ls => by rw [splitPieces, List.length_cons, List.length_cons, splitPieces_length _ ls]

/-- R159: the `j`-th value is read where the pieces before it end. -/
theorem getElem?_splitPieces : ∀ (s : Bits) (ls : List Nat) {j l : Nat}, ls[j]? = some l →
    (splitPieces s ls)[j]? = some (toValue ((s.drop (ls.take j).sum).take l))
  | s, l :: ls, 0, _, h => by
    cases h
    rfl
  | s, l :: ls, j + 1, _, h => by
    rw [List.getElem?_cons_succ] at h
    rw [splitPieces, List.getElem?_cons_succ, getElem?_splitPieces _ ls h, List.take_succ_cons, List.sum_cons,
      List.drop_drop]

/-- R159: the pieces written at their widths and joined are the sequence they were cut from. -/
theorem flatten_bitsOf_splitPieces : ∀ (s : Bits) (ls : List Nat), ls.sum = s.length →
    (List.zipWith bitsOf (splitPieces s ls) ls).flatten = s
  | s, [], h => (List.length_eq_zero_iff.mp h.symm).symm
  | s, l :: ls, h => by
    rw [List.sum_cons] at h
    have hpiece : bitsOf (toValue (s.take l)) l = s.take l := by
      have hback := bitsOf_toValue (s.take l)
      rwa [List.length_take_of_le (by omega)] at hback
    have hrest := flatten_bitsOf_splitPieces (s.drop l) ls (by rw [List.length_drop]; omega)
    rw [splitPieces, List.zipWith_cons_cons, List.flatten_cons, hpiece, hrest, List.take_append_drop]

/-- Settles O23: the length check is the only failure, and the pieces are those the cut gives. -/
theorem splitRejoins : Obligations.SplitRejoins := by
  unfold Obligations.SplitRejoins
  intro s ls
  refine ⟨fun hne => if_neg hne, fun heq => ⟨splitPieces s ls, if_pos heq, splitPieces_length s ls, ?_, ?_⟩⟩
  · exact fun j l hl => getElem?_splitPieces s ls hl
  · exact flatten_bitsOf_splitPieces s ls heq

end Sys2Proof.Machine
end

section
/-! From a legal state every move has a next state (R161), and only an access outside the interface is refused (R81). -/

namespace Sys2Proof.Machine

/-! ### One stretch of a command -/

section
variable {i : Instr} {s : State}

theorem guarded_next {checks : List (Bool × Detail)} {k : Result} (hk : ∃ t, k = .next t) :
    ∃ t, guarded checks s k = .next t := by
  rcases guarded_cases (checks := checks) (s := s) (k := k) with ⟨-, hg⟩ | ⟨e, -, hg⟩ <;> rw [hg]
  · exact hk
  · exact ⟨_, rfl⟩

theorem onReply_next {k : Bits → Result} (hk : ∀ o, s.reply = .ok o → ∃ t, k o = .next t) :
    ∃ t, onReply s k = .next t := by
  rcases onReply_cases (s := s) (k := k) with ⟨e, -, hr⟩ | ⟨o, ho, hr⟩ <;> rw [hr]
  · exact ⟨_, rfl⟩
  · exact hk o ho

theorem onProbe_next {k : Nat → Result} (hk : ∀ l, ∃ t, k l = .next t) : ∃ t, onProbe s k = .next t := by
  rcases onProbe_cases (s := s) (k := k) with ⟨e, -, hp⟩ | ⟨l, -, hp⟩ <;> rw [hp]
  · exact ⟨_, rfl⟩
  · exact hk l

theorem compareWidth_next {d : Nat} {k : Int → Result} (hk : ∀ c, ∃ t, k c = .next t) :
    ∃ t, compareWidth d s k = .next t := by
  rcases compareWidth_cases (d := d) (s := s) (k := k) with ⟨e, -, hw⟩ | ⟨l, -, ⟨-, hw⟩ | ⟨-, hw⟩⟩ <;> rw [hw]
  · exact ⟨_, rfl⟩
  · exact ⟨_, rfl⟩
  · exact hk _

theorem probeAfterIr_next (s : State) : ∃ t, probeAfterIr s = .next t := onReply_next fun _ _ => ⟨_, rfl⟩

/-- R94: a capture that fits its scan is as long as the scan. -/
theorem length_of_replyFits {req : ScanReq} {o : Bits} (hfits : replyFits req s.reply = true)
    (hcapture : req.capture = true) (ho : s.reply = .ok o) : o.length = req.bits.length := by
  simpa only [replyFits, ho, hcapture, if_true, decide_eq_true_eq] using hfits

/-- R161, R210: a capture as long as an IR scan is long enough to strip. -/
theorem stripIR_of_length {d : Nat} {b o : Bits} (h : o.length = (padIR s d b).length) : ∃ r, stripIR s d o = some r := by
  rw [padIR_length] at h
  exact ⟨_, strip_of_le (by omega)⟩

/-- R161, R230: a capture as long as a DR scan is long enough to strip. -/
theorem stripDR_of_length {d : Nat} {b o : Bits} (h : o.length = (padDR s d b).length) : ∃ r, stripDR s d o = some r := by
  rw [padDR_length] at h
  exact ⟨_, strip_of_le (by omega)⟩

/-- Every command has a first stretch: its checks guard a scan, a completion or the survey's loop head. -/
theorem exec_next_of_start (hpos : s.pos = .start) : ∃ t, exec i s = .next t := by
  cases i with
  | clearChain d => simp only [exec, execClearChain, hpos]; exact ⟨_, rfl⟩
  | survey d => simp only [exec, execSurvey, hpos]; exact guarded_next (surveyLoop_next _)
  | _ =>
    simp only [exec, execLoadChain, execDeviceCount, execTotalIrLength, execTotalDrLength, execDeviceView, execWriteIr,
      execReadWriteIr, execVerifyIrCapture, execWriteDr, execReadWriteDr, execCurrentDrLength, execVerifyDrLength,
      execCheckDr, hpos]
    exact guarded_next ⟨_, rfl⟩

/-- R161: where a command has a scan outstanding its pseudocode goes on, and a capture that fits the scan never takes a strip out
of range. -/
theorem exec_next_of_scanAt {req : ScanReq} (hscan : scanAt i s s.pos = some req) (hfits : replyFits req s.reply = true) :
    ∃ t, exec i s = .next t := by
  generalize hpos : s.pos = p at hscan
  cases i with
  | loadChain d | clearChain d | deviceCount d | totalIrLength d | deviceView d => cases p <;> cases hscan
  | totalDrLength d | currentDrLength d =>
    cases p <;> cases hscan
    case probe.refl =>
      simp only [exec, execTotalDrLength, execCurrentDrLength, hpos]
      exact onProbe_next fun _ => ⟨_, rfl⟩
  | writeIr d | writeDr d =>
    cases p <;> cases hscan
    case refl =>
      simp only [exec, execWriteIr, execWriteDr, hpos]
      exact onReply_next fun _ _ => ⟨_, rfl⟩
  | readWriteIr d | verifyIrCapture d =>
    cases p <;> cases hscan
    case ir.refl =>
      simp only [exec, execReadWriteIr, execVerifyIrCapture, hpos]
      refine onReply_next fun o ho => ?_
      obtain ⟨r, hr⟩ := stripIR_of_length (length_of_replyFits hfits rfl ho)
      exact ⟨_, by rw [hr]⟩
  | readWriteDr d =>
    cases p <;> cases hscan
    case dr.refl =>
      simp only [exec, execReadWriteDr, hpos]
      refine onReply_next fun o ho => ?_
      obtain ⟨r, hr⟩ := stripDR_of_length (length_of_replyFits hfits rfl ho)
      exact ⟨_, by rw [hr]⟩
  | verifyDrLength d =>
    cases p <;> cases hscan
    case ir.refl => simp only [exec, execVerifyDrLength, hpos]; exact probeAfterIr_next s
    case probe.refl => simp only [exec, execVerifyDrLength, hpos]; exact compareWidth_next fun _ => ⟨_, rfl⟩
  | checkDr d =>
    cases p <;> cases hscan
    case ir.refl => simp only [exec, execCheckDr, hpos]; exact probeAfterIr_next s
    case probe.refl => simp only [exec, execCheckDr, hpos]; exact compareWidth_next fun _ => ⟨_, rfl⟩
    case dr.refl =>
      simp only [exec, execCheckDr, hpos]
      refine onReply_next fun o ho => ?_
      obtain ⟨r, hr⟩ := stripDR_of_length (length_of_replyFits hfits rfl ho)
      exact ⟨_, by rw [hr]⟩
  | survey d =>
    cases p <;> cases hscan
    case ir.refl => simp only [exec, execSurvey, hpos]; cases s.reply <;> exact ⟨_, rfl⟩
    case probe.refl => simp only [exec, execSurvey, hpos]; exact ⟨_, rfl⟩

end

/-! ### One step -/

section
variable {s : State}

theorem runWord_next {w : Word} (hphase : PhaseOk s) (hrun : s.phase = .running w) : ∃ t, runWord w s = .next t := by
  unfold runWord
  cases hdec : decode w with
  | illegal why => exact ⟨_, rfl⟩
  | command i =>
    by_cases hpos : s.pos = .start
    · exact exec_next_of_start hpos
    · obtain ⟨-, req, hscan, hfits⟩ := hphase.inCommand hrun hdec hpos
      exact exec_next_of_scanAt hscan hfits

theorem controllerStep_next (hphase : PhaseOk s) : ∃ t, controllerStep s = .next t := by
  unfold controllerStep
  cases hp : s.phase with
  | running w => exact runWord_next hphase hp
  | idle | waitScan req | waitAck => exact ⟨_, rfl⟩

theorem hostWrite_next {addr size : Nat} (hadm : admitted addr size = true) (v : Word) (s : State) :
    ∃ t, hostWrite addr size v s = .next t := by
  rw [hostWrite, if_pos hadm]
  exact regWrite_next s v _

theorem hostRead_next {addr size : Nat} (hadm : admitted addr size = true) (s : State) :
    ∃ t, hostRead addr size s = .next t := by
  rw [hostRead, if_pos hadm]
  exact ⟨_, rfl⟩

/-- R161: a legal state answers every input the interface admits. -/
theorem step_next (hinv : Inv s) (hnext : nextRefused s = false) : ∃ t, step s = .next t := by
  have hmove : ∃ t, controllerStep s = .next t := controllerStep_next hinv.phase
  have hpopped : ∀ rest, Inv { s with inbox := rest } := fun rest =>
    hinv.of_same (by constructor <;> rfl) (by constructor <;> rfl) (by constructor <;> rfl)
  unfold step
  split
  case h_1 => exact hmove
  case h_2 rest _ => exact controllerStep_next (hpopped rest).phase
  case h_3 hin => exact hostWrite_next (by simpa [nextRefused, hin] using hnext) _ _
  case h_4 hin => exact hostRead_next (by simpa [nextRefused, hin] using hnext) _
  case h_5 => exact ⟨_, rfl⟩
  case h_6 => exact ⟨_, rfl⟩
  case h_7 =>
    split
    · exact ⟨_, rfl⟩
    · exact hmove
  case h_8 =>
    split
    · exact ⟨_, rfl⟩
    · exact hmove

/-- R81: in any state a host access outside the interface has no step. -/
theorem step_refused (hnext : nextRefused s = true) :
    ∃ addr size, step s = .refused (.outsideInterface addr size) := by
  unfold nextRefused at hnext
  split at hnext
  case h_1 addr size v rest hin =>
    have hout : ¬ admitted addr size = true := by simpa using hnext
    exact ⟨addr, size, by rw [step, hin]; exact if_neg hout⟩
  case h_2 addr size rest hin =>
    have hout : ¬ admitted addr size = true := by simpa using hnext
    exact ⟨addr, size, by rw [step, hin]; exact if_neg hout⟩
  case h_3 => cases hnext

end

/-- Settles O53: at its start a command answers whatever the state, past it the invariant names the scan its reply fits, and every
other input answers but an access outside the interface. -/
theorem legalStatesNeverFault : Obligations.LegalStatesNeverFault := by
  unfold Obligations.LegalStatesNeverFault
  exact fun s hinv => ⟨step_next hinv, step_refused⟩

end Sys2Proof.Machine
end

section
/-! The chain (41_chain.md): the padding counts as sums (R182 to R185), what the chain commands report (R180, R181, R188 to R191)
and what a probe's verdict says of its capture (R187). -/

namespace Sys2Proof.Machine

/-! ### The padding counts as sums (R182, R183) -/

theorem irlenSum_eq_sum (s : State) (lo : Nat) :
    ∀ n, irlenSum s lo n = ((List.range n).map fun j => irlen s (lo + j)).sum
  | 0 => rfl
  | n + 1 => by rw [irlenSum, irlenSum_eq_sum s lo n, List.sum_range_succ]

theorem irlenSum_zero_eq_sum (s : State) (n : Nat) : irlenSum s 0 n = ((List.range n).map (irlen s)).sum := by
  simp only [irlenSum_eq_sum, Nat.zero_add]

theorem irlenBefore_eq_sum (s : State) (d : Nat) : irlenBefore s d = ((List.range d).map (irlen s)).sum :=
  irlenSum_zero_eq_sum s d

theorem irlenAfter_eq_sum (s : State) (d : Nat) :
    irlenAfter s d = ((List.range (devCount s - 1 - d)).map fun j => irlen s (d + 1 + j)).sum :=
  irlenSum_eq_sum s (d + 1) _

theorem totalIR_eq_sum (s : State) : totalIR s = ((List.range (devCount s)).map (irlen s)).sum :=
  irlenSum_zero_eq_sum s _

/-- Settles O25: each count is a sum of IR lengths by its recursion, whether or not `d` is a device of the chain. -/
theorem paddingCountsAreTheSums : Obligations.PaddingCountsAreTheSums := by
  unfold Obligations.PaddingCountsAreTheSums
  intro s d _
  exact ⟨rfl, irlenBefore_eq_sum s d, irlenAfter_eq_sum s d, totalIR_eq_sum s, rfl, rfl⟩

/-- Settles O26: the sum over the whole chain splits around the device. -/
theorem paddingCountsPartitionTheChain : Obligations.PaddingCountsPartitionTheChain := by
  unfold Obligations.PaddingCountsPartitionTheChain
  intro s d hd
  have hdevs := devsBefore_add_devsAfter hd
  exact ⟨irlenBefore_add_irlen_add_irlenAfter hd, by omega⟩

/-! ### The static checks one at a time (R180, R286) -/

@[simp] theorem guarded_nil (s : State) (k : Result) : guarded [] s k = k := rfl

/-- R286: the first check of the list fails, and is the one reported. -/
theorem guarded_cons_fails {s : State} {c : Bool × Detail} (h : c.1 = true) (rest : List (Bool × Detail))
    (k : Result) : guarded (c :: rest) s k = .next (raise c.2 s) := by
  rw [guarded, firstError, if_pos h]

theorem guarded_cons_passes {s : State} {c : Bool × Detail} (h : c.1 = false) (rest : List (Bool × Detail))
    (k : Result) : guarded (c :: rest) s k = guarded rest s k := by
  rw [guarded, firstError, if_neg (Bool.not_eq_true _ ▸ h), guarded]

theorem checkConfigured_passes {s : State} (h : s.configured = true) : (checkConfigured s).1 = false := by
  rw [checkConfigured, h, Bool.not_true]

theorem checkDev_passes {s : State} {d : Nat} (h : d < devCount s) : (checkDev s d).1 = false :=
  decide_eq_false (Nat.not_le.mpr h)

/-- R180: a bad descriptor among the first `n` is an IR length of 0 or above MAX_IRLEN. -/
theorem badDescriptor_true (s : State) (n : Nat) :
    badDescriptor s n = true ↔ ∃ i < n, irlen s i = 0 ∨ s.cfg.maxIrlen < irlen s i := by
  rw [← Bool.not_eq_false, badDescriptor_false]
  push Not
  refine exists_congr fun i => and_congr_right fun _ => ?_
  omega

/-! ### The chain commands that issue no scan (R180, R181, R188, R189, R191) -/

theorem exec_loadChain_start {s : State} (h : s.pos = .start) (d : Nat) :
    exec (.loadChain d) s =
      guarded [(s.configured, .alreadyConfigured), (decide (s.cfg.maxDevices < devCount s), .chainN),
        (badDescriptor s (devCount s), .descIrlen)] s (.next (finish { s with configured := true })) := by
  rw [exec, execLoadChain, h]

theorem exec_deviceCount_start {s : State} (h : s.pos = .start) (hconf : s.configured = true) (d : Nat) :
    exec (.deviceCount d) s = .next (finish { s with result := zext32 (devCount s) }) := by
  rw [exec, execDeviceCount, h]
  exact guarded_cons_passes (checkConfigured_passes hconf) _ _

theorem exec_totalIrLength_start {s : State} (h : s.pos = .start) (hconf : s.configured = true) (d : Nat) :
    exec (.totalIrLength d) s = .next (finish { s with result := zext32 (totalIR s) }) := by
  rw [exec, execTotalIrLength, h]
  exact guarded_cons_passes (checkConfigured_passes hconf) _ _

theorem exec_deviceView_start {s : State} (h : s.pos = .start) (hconf : s.configured = true) {d : Nat}
    (hd : d < devCount s) :
    exec (.deviceView d) s =
      .next (finish { s with
        dvIdcode := descIdcode s d,
        dvIrlen := descIrlen s d,
        dvIrlenBefore := BitVec.ofNat 16 (irlenBefore s d),
        dvIrlenAfter := BitVec.ofNat 16 (irlenAfter s d),
        dvDevsBefore := BitVec.ofNat 16 (devsBefore s d),
        dvDevsAfter := BitVec.ofNat 16 (devsAfter s d) }) := by
  rw [exec, execDeviceView, h]
  rw [guarded_cons_passes (checkConfigured_passes hconf), guarded_cons_passes (checkDev_passes hd), guarded_nil]

/-- R51, R45: the DV_IRLEN field is exactly as wide as the descriptor's IR length. -/
theorem ofNat_irlen (s : State) (d : Nat) : BitVec.ofNat 16 (irlen s d) = descIrlen s d := by
  rw [irlen, BitVec.ofNat_toNat, BitVec.setWidth_eq]

/-- Settles O27: the first failing check of R180's three ends the command, and with none the chain is loaded. -/
theorem loadChainResult : Obligations.LoadChainResult := by
  unfold Obligations.LoadChainResult
  intro d s hpos
  rw [exec_loadChain_start hpos]
  refine ⟨fun hconf => ?_, fun hconf hcount => ?_, fun hconf hcount hbad => ?_, fun hconf hcount hgood => ?_⟩
  · rw [guarded_cons_fails hconf]
    rfl
  · rw [guarded_cons_passes hconf, guarded_cons_fails (decide_eq_true hcount)]
    rfl
  · have hfit := decide_eq_false (Nat.not_lt.mpr hcount)
    rw [guarded_cons_passes hconf, guarded_cons_passes hfit, guarded_cons_fails ((badDescriptor_true s _).mpr hbad)]
    rfl
  · have hfit := decide_eq_false (Nat.not_lt.mpr hcount)
    rw [guarded_cons_passes hconf, guarded_cons_passes hfit, guarded_cons_passes ((badDescriptor_false s _).mpr hgood)]
    rfl

/-- Settles O28: CLEAR_CHAIN has no checks and completes in its first stretch. -/
theorem clearChainResult : Obligations.ClearChainResult := by
  unfold Obligations.ClearChainResult
  intro d s hpos
  rw [exec, execClearChain, hpos]
  rfl

/-- Settles O29: with a chain loaded the one check passes, and totalIR is the sum. -/
theorem chainQueriesReport : Obligations.ChainQueriesReport := by
  unfold Obligations.ChainQueriesReport
  intro d s hpos hconf
  rw [exec_deviceCount_start hpos hconf, exec_totalIrLength_start hpos hconf, totalIR_eq_sum]
  exact ⟨rfl, rfl⟩

/-- Settles O30: with both checks passed, the padding counts it writes are the sums. -/
theorem deviceViewReports : Obligations.DeviceViewReports := by
  unfold Obligations.DeviceViewReports
  intro d s hpos hconf hd
  rw [exec_deviceView_start hpos hconf hd, irlenBefore_eq_sum, irlenAfter_eq_sum, ofNat_irlen]
  rfl

/-! ### The probe (R186, R187, R190) -/

/-- R187: a sequence is its leading zeros and what follows them. -/
theorem zeros_leadingZeros_append_drop : ∀ o : Bits, zeros (leadingZeros o) ++ o.drop (leadingZeros o) = o
  | [] => rfl
  | true :: _ => rfl
  | false :: o => congrArg (false :: ·) (zeros_leadingZeros_append_drop o)

/-- Settles O32: past its two errors the evaluation has found the leading zeros, at most M, and M ones after them; and such a
capture measures as `evaluateProbe_edge` says. -/
theorem probeVerdictMeansItsPattern : Obligations.ProbeVerdictMeansItsPattern := by
  unfold Obligations.ProbeVerdictMeansItsPattern
  intro m l o hm
  constructor
  · intro hok
    rcases evaluateProbe_cases m o with ⟨-, herr⟩ | ⟨-, -, herr⟩ | ⟨hz, hle, hones, hlen⟩
    · cases herr ▸ hok
    · cases herr ▸ hok
    · obtain rfl : m - leadingZeros o = l := Except.ok.inj (hlen ▸ hok)
      refine ⟨by omega, (o.drop (leadingZeros o)).drop m, ?_⟩
      calc o = zeros (leadingZeros o) ++ o.drop (leadingZeros o) := (zeros_leadingZeros_append_drop o).symm
        _ = zeros (leadingZeros o) ++ (ones m ++ (o.drop (leadingZeros o)).drop m) := by
          rw [← hones, List.take_append_drop]
        _ = zeros (m - (m - leadingZeros o)) ++ ones m ++ (o.drop (leadingZeros o)).drop m := by
          rw [Nat.sub_sub_self hle, List.append_assoc]
  · rintro ⟨hl, c, rfl⟩
    rw [List.append_assoc, evaluateProbe_edge c (by omega) (Nat.sub_le m l), Nat.sub_sub_self (by omega)]

theorem probeOutcome_of_reply {s : State} {o : Bits} (h : s.reply = .ok o) :
    probeOutcome s = evaluateProbe s.cfg.drProbeMax o := by
  rw [probeOutcome, h]

theorem onProbe_of_ok {s : State} {l : Nat} (h : probeOutcome s = .ok l) (k : Nat → Result) : onProbe s k = k l := by
  rw [onProbe, h]

theorem onProbe_of_error {s : State} {e : Detail} (h : probeOutcome s = .error e) (k : Nat → Result) :
    onProbe s k = .next (raise e s) := by
  rw [onProbe, h]

theorem exec_totalDrLength_start {s : State} (h : s.pos = .start) (hconf : s.configured = true) (d : Nat) :
    exec (.totalDrLength d) s = .next (issue .probe (probeReq s) s) := by
  rw [exec, execTotalDrLength, h]
  exact guarded_cons_passes (checkConfigured_passes hconf) _ _

theorem exec_totalDrLength_probe {s : State} (h : s.pos = .probe) (d : Nat) :
    exec (.totalDrLength d) s = onProbe s fun l => .next (finish { s with result := zext32 l }) := by
  rw [exec, execTotalDrLength, h]

theorem exec_totalDrLength_measured {s : State} (h : s.pos = .probe) {l : Nat} (hok : probeOutcome s = .ok l) (d : Nat) :
    exec (.totalDrLength d) s = .next (finish { s with result := zext32 l }) := by
  rw [exec_totalDrLength_probe h, onProbe_of_ok hok]

/-- R94, R95: the capture of a waiting probe, as long as its scan, is handed to the command. -/
theorem takeResponse_issue_probe {s : State} {o : Bits} (h : o.length = 2 * s.cfg.drProbeMax) :
    takeResponse (.ok o) (issue .probe (probeReq s) s) =
      { issue .probe (probeReq s) s with phase := .running s.cmd, reply := .ok o } := by
  have hreply : replyOf (probeReq s) (.ok o) = .ok o := by
    rw [replyOf, if_pos (show (probeReq s).capture = true from rfl), if_pos (h.trans (probeReq_bits_length s).symm)]
  rw [takeResponse, issue_phase]
  simp only [hreply, issue_cmd]

/-- Settles O33: the check passes and the probe is issued; its capture comes back as the reply, whose measure is the result. -/
theorem totalDrLengthRuns : Obligations.TotalDrLengthRuns := by
  unfold Obligations.TotalDrLengthRuns
  intro d s hpos hconf
  refine ⟨probeReq s, rfl, exec_totalDrLength_start hpos hconf d, fun o l hlen hok => ?_⟩
  change exec _ (takeResponse (.ok o) (issue .probe (probeReq s) s)) = _
  rw [takeResponse_issue_probe hlen]
  refine exec_totalDrLength_measured rfl ?_ d
  rw [probeOutcome_of_reply rfl]
  exact hok

/-- R187, R281: where a command other than SURVEY waits for its probe, its next line raises the probe's error. -/
theorem exec_failed_probe {i : Instr} {s : State} {e : Detail} (hsurvey : ∀ d, i ≠ .survey d)
    (hscan : scanAt i s .probe = some (probeReq s)) (hpos : s.pos = .probe) (herr : probeOutcome s = .error e) :
    exec i s = .next (raise e s) := by
  have hline := onProbe_of_error herr
  cases i with
  | loadChain d | clearChain d | deviceCount d | totalIrLength d | deviceView d | writeIr d | readWriteIr d
  | verifyIrCapture d | writeDr d | readWriteDr d => cases hscan
  | totalDrLength d => rw [exec_totalDrLength_probe hpos, hline]
  | currentDrLength d => simp only [exec, execCurrentDrLength, hpos, hline]
  | verifyDrLength d => simp only [exec, execVerifyDrLength, hpos, compareWidth, hline]
  | checkDr d => simp only [exec, execCheckDr, hpos, compareWidth, hline]
  | survey d => exact absurd rfl (hsurvey d)

/-- Settles O49: the capture's verdict is the probe's outcome, and a command that probes raises an outcome that is an error. -/
theorem failedProbesEndTheCommand : Obligations.FailedProbesEndTheCommand := by
  unfold Obligations.FailedProbesEndTheCommand
  intro i s o e hsurvey hscan hpos hreply herr
  exact exec_failed_probe hsurvey hscan hpos ((probeOutcome_of_reply hreply).trans herr)

end Sys2Proof.Machine
end

section
/-! The device IR commands (42_device_ir.md): padding and stripping (R210, R230), the scan each command issues and how it goes on
when the response comes (R211, R212, R213). -/

namespace Sys2Proof.Machine

/-! ### Padding and stripping (R210, R230) -/

theorem strip_append (pre r post : Bits) : strip pre.length post.length (pre ++ r ++ post) = some r := by
  have hhead : dropHead (pre ++ r ++ post) pre.length = some (r ++ post) :=
    List.append_assoc pre r post ▸ dropHead_append pre (r ++ post)
  rw [strip, hhead]
  exact dropTail_append r post

theorem stripIR_append {s : State} {d : Nat} {pre post : Bits} (hpre : pre.length = irlenBefore s d)
    (hpost : post.length = irlenAfter s d) (r : Bits) : stripIR s d (pre ++ r ++ post) = some r := by
  rw [stripIR, ← hpre, ← hpost, strip_append]

theorem stripDR_append {s : State} {d : Nat} {pre post : Bits} (hpre : pre.length = devsBefore s d)
    (hpost : post.length = devsAfter s d) (r : Bits) : stripDR s d (pre ++ r ++ post) = some r := by
  rw [stripDR, ← hpre, ← hpost, strip_append]

theorem padIR_eq (s : State) (d : Nat) (b : Bits) :
    padIR s d b = ones (irlenBefore s d) ++ b ++ ones (irlenAfter s d) := rfl

theorem padDR_eq (s : State) (d : Nat) (b : Bits) :
    padDR s d b = ones (devsBefore s d) ++ b ++ ones (devsAfter s d) := rfl

/-- R210: an operand as wide as the device's IR is padded to the IR path. -/
theorem padIR_length_of_irlen {s : State} {d : Nat} {b : Bits} (hd : d < devCount s) (hb : b.length = irlen s d) :
    (padIR s d b).length = totalIR s := by
  rw [padIR_length, hb, irlenBefore_add_irlen_add_irlenAfter hd]

/-- R210: a capture in three pieces, of the chain's lengths around the device, is as long as the IR path. -/
theorem length_capture_eq_totalIR {s : State} {d : Nat} {pre r post : Bits} (hd : d < devCount s)
    (hpre : pre.length = irlenBefore s d) (hr : r.length = irlen s d) (hpost : post.length = irlenAfter s d) :
    (pre ++ r ++ post).length = totalIR s := by
  rw [List.length_append, List.length_append, hpre, hr, hpost, irlenBefore_add_irlen_add_irlenAfter hd]

/-- R213: ones padded with ones are ones for the whole IR path. -/
theorem padIR_ones {s : State} {d : Nat} (hd : d < devCount s) : padIR s d (ones (irlen s d)) = ones (totalIR s) := by
  rw [padIR_eq, ← irlenBefore_add_irlen_add_irlenAfter hd]
  simp only [ones, List.replicate_append_replicate]

/-- Settles O34: the padding is written out and its lengths add up to the path; a sequence in three pieces, the outer two as long
as the padding, strips to its middle. -/
theorem stripsKeepTheDevicesBits : Obligations.StripsKeepTheDevicesBits := by
  unfold Obligations.StripsKeepTheDevicesBits
  intro s d b pre r post hd hr
  refine ⟨fun hb hpre hpost => ?_, fun hpre hpost => ?_⟩
  · exact ⟨padIR_length_of_irlen hd hb, padIR_eq s d b, length_capture_eq_totalIR hd hpre (hr.trans hb) hpost,
      stripIR_append hpre hpost r⟩
  · have hdevs := devsBefore_add_devsAfter hd
    refine ⟨?_, padDR_eq s d b, ?_, stripDR_append hpre hpost r⟩
    · rw [padDR_length]
      omega
    · simp only [List.length_append]
      omega

/-! ### Going on when the response comes (R94, R95) -/

/-- The state in which a command goes on at `p` after the scan it issued in `s`, with the reply `o`
(`takeResponse_issue_captured`, `takeResponse_issue_uncaptured`). -/
def resumed (p : Pos) (o : Bits) (s : State) : State :=
  { s with phase := .running s.cmd, pos := p, reply := .ok o, issued := s.issued + 1 }

section
variable {s : State} {p : Pos} {req : ScanReq}

theorem takeResponse_issue (p : Pos) (req : ScanReq) (resp : Response) (s : State) :
    takeResponse resp (issue p req s) =
      { s with phase := .running s.cmd, pos := p, reply := replyOf req resp, issued := s.issued + 1 } := rfl

/-- R94: a capture as long as its scan is handed to the command. -/
theorem takeResponse_issue_captured {o : Bits} (hcapture : req.capture = true) (hlen : o.length = req.bits.length) :
    takeResponse (.ok o) (issue p req s) = resumed p o s := by
  have hreply : replyOf req (.ok o) = .ok o := by rw [replyOf, if_pos hcapture, if_pos hlen]
  rw [takeResponse_issue, hreply, resumed]

/-- R94: what comes back from a scan without capture is not looked at. -/
theorem takeResponse_issue_uncaptured (hcapture : req.capture = false) (data : Bits) :
    takeResponse (.ok data) (issue p req s) = resumed p [] s := by
  have hreply : replyOf req (.ok data) = .ok [] := by rw [replyOf, if_neg (by rw [hcapture]; exact Bool.false_ne_true)]
  rw [takeResponse_issue, hreply, resumed]

theorem onReply_of_ok {o : Bits} (h : s.reply = .ok o) (k : Bits → Result) : onReply s k = k o := by
  rw [onReply, h]

end

/-! ### What a capture leaves in RX (R50, R84, R85) -/

/-- R85: a sequence of at most MAX_SEQ_BITS bits fits the RX buffer. -/
theorem toValue_lt_buffer {p : Config.Params} {r : Bits} (hwf : p.wf = true) (hlen : r.length ≤ p.maxSeqBits) :
    toValue r < 2 ^ (32 * p.seqWords) := by
  obtain ⟨-, -, -, -, -, -, -, hwords, -⟩ := Params_wf_bounds hwf
  rw [hwords]
  exact (toValue_lt r).trans_le (Nat.pow_le_pow_right Nat.two_pos hlen)

/-- R50: RX holds the captured value, word by word, and no byte outside RX changes. -/
theorem rx_putCapture {s : State} {r : Bits} (hwf : s.cfg.wf = true) (hmem : Memory.wf s.mem = true)
    (hlen : r.length ≤ s.cfg.maxSeqBits) (n : Nat) :
    bufferValue (putCapture n r s).mem rxBase s.cfg.seqWords = toValue r ∧
      (∀ k < s.cfg.seqWords,
        readWord (putCapture n r s).mem (rxBase + 4 * k) = BitVec.ofNat 32 (toValue r / 2 ^ (32 * k))) ∧
      ∀ a, ¬ inRx s a → readByte (putCapture n r s).mem a = readByte s.mem a := by
  refine ⟨?_, fun k hk => ?_, fun a ha => readByte_putCapture_other ha⟩
  · rw [putCapture_mem, bufferValue_writeBuffer rxBase _ hmem, Nat.mod_eq_of_lt (toValue_lt_buffer hwf hlen)]
  · rw [putCapture_mem, readWord_writeBuffer rxBase _ hmem k _ hk]

/-! ### The commands' stretches (R211, R212, R213) -/

section
variable {s : State} {d : Nat}

/-- R286: the checks of a command that writes an IR operand, passed one after another. -/
theorem guarded_irOperand_passes (hconf : s.configured = true) (hd : d < devCount s) (hlen : txCount s ≤ s.cfg.maxSeqBits)
    (hwidth : txCount s = irlen s d) (k : Result) :
    guarded [checkConfigured s, checkDev s d, checkTxLen s, checkIrWidth s d] s k = k := by
  have htxLen : (checkTxLen s).1 = false := decide_eq_false (Nat.not_lt.mpr hlen)
  have hirWidth : (checkIrWidth s d).1 = false := decide_eq_false (not_not_intro hwidth)
  rw [guarded_cons_passes (checkConfigured_passes hconf), guarded_cons_passes (checkDev_passes hd),
    guarded_cons_passes htxLen, guarded_cons_passes hirWidth, guarded_nil]

theorem exec_writeIr_start (hpos : s.pos = .start) (hconf : s.configured = true) (hd : d < devCount s)
    (hlen : txCount s ≤ s.cfg.maxSeqBits) (hwidth : txCount s = irlen s d) :
    exec (.writeIr d) s = .next (issue .ir (scanIR (padIR s d (txOperand s (irlen s d))) false) s) := by
  rw [exec, execWriteIr, hpos, txArg, hwidth]
  exact guarded_irOperand_passes hconf hd hlen hwidth _

theorem exec_readWriteIr_start (hpos : s.pos = .start) (hconf : s.configured = true) (hd : d < devCount s)
    (hlen : txCount s ≤ s.cfg.maxSeqBits) (hwidth : txCount s = irlen s d) :
    exec (.readWriteIr d) s = .next (issue .ir (scanIR (padIR s d (txOperand s (irlen s d))) true) s) := by
  rw [exec, execReadWriteIr, hpos, txArg, hwidth]
  exact guarded_irOperand_passes hconf hd hlen hwidth _

theorem exec_verifyIrCapture_start (hpos : s.pos = .start) (hconf : s.configured = true) (hd : d < devCount s)
    (htwo : 2 ≤ irlen s d) :
    exec (.verifyIrCapture d) s = .next (issue .ir (scanIR (ones (totalIR s)) true) s) := by
  have hirlenTwo : (checkIrlenTwo s d).1 = false := decide_eq_false (Nat.not_lt.mpr htwo)
  rw [exec, execVerifyIrCapture, hpos, padIR_ones hd]
  rw [guarded_cons_passes (checkConfigured_passes hconf), guarded_cons_passes (checkDev_passes hd),
    guarded_cons_passes hirlenTwo, guarded_nil]

theorem exec_writeIr_responded {o : Bits} (hpos : s.pos = .ir) (hreply : s.reply = .ok o) :
    exec (.writeIr d) s = .next (finish s) := by
  rw [exec, execWriteIr, hpos]
  exact onReply_of_ok hreply _

theorem exec_readWriteIr_captured {o r : Bits} (hpos : s.pos = .ir) (hreply : s.reply = .ok o)
    (hstrip : stripIR s d o = some r) :
    exec (.readWriteIr d) s = .next (finish (putCapture (irlen s d) r s)) := by
  simp only [exec, execReadWriteIr, hpos, onReply_of_ok hreply, hstrip]

theorem exec_verifyIrCapture_captured {o r : Bits} (hpos : s.pos = .ir) (hreply : s.reply = .ok o)
    (hstrip : stripIR s d o = some r) :
    exec (.verifyIrCapture d) s = .next (finish { putCapture (irlen s d) r s with boolFlag := irCaptureOk r }) := by
  simp only [exec, execVerifyIrCapture, hpos, onReply_of_ok hreply, hstrip]

/-- R210: stripping reads only the chain, which a command that goes on has as it was. -/
theorem stripIR_resumed_append {p : Pos} {o pre post : Bits} (hpre : pre.length = irlenBefore s d)
    (hpost : post.length = irlenAfter s d) (r : Bits) : stripIR (resumed p o s) d (pre ++ r ++ post) = some r :=
  (stripIR_congr (s := s) (t := resumed p o s) rfl rfl d _).trans (stripIR_append hpre hpost r)

end

/-! ### The commands run -/

/-- Settles O35: the checks pass and the padded operand is issued; what comes back is not looked at and the command completes. -/
theorem writeIrRuns : Obligations.WriteIrRuns := by
  unfold Obligations.WriteIrRuns
  intro d s hpos hconf hd hlen hwidth
  refine ⟨scanIR (padIR s d (txOperand s (irlen s d))) false, rfl, exec_writeIr_start hpos hconf hd hlen hwidth,
    fun data => ?_⟩
  change exec _ (takeResponse (.ok data) (issue .ir _ s)) = _
  rw [takeResponse_issue_uncaptured rfl, exec_writeIr_responded rfl rfl]
  rfl

/-- Settles O36: the checks pass and the padded operand is issued; the capture, as long as the IR path, strips to the device's bits,
which go to RX. -/
theorem readWriteIrRuns : Obligations.ReadWriteIrRuns := by
  unfold Obligations.ReadWriteIrRuns
  intro d s hpos hconf hd hlen hwidth hwf hmem
  refine ⟨scanIR (padIR s d (txOperand s (irlen s d))) true, rfl, exec_readWriteIr_start hpos hconf hd hlen hwidth,
    fun pre r post hpre hr hpost => ⟨(putCapture (irlen s d) r s).mem, ?_, rx_putCapture hwf hmem ?_ _⟩⟩
  · have hpath : (pre ++ r ++ post).length = (padIR s d (txOperand s (irlen s d))).length := by
      rw [length_capture_eq_totalIR hd hpre hr hpost, padIR_length_of_irlen hd (txOperand_length s _)]
    change exec _ (takeResponse (.ok _) (issue .ir _ s)) = _
    rw [takeResponse_issue_captured rfl hpath, exec_readWriteIr_captured rfl rfl (stripIR_resumed_append hpre hpost r)]
    rfl
  · rw [hr, ← hwidth]
    exact hlen

/-- Settles O37: the checks pass and ones are issued for the whole IR path; the capture strips to the device's bits, which go to RX
and whose low two bits give the verdict. -/
theorem verifyIrCaptureRuns : Obligations.VerifyIrCaptureRuns := by
  unfold Obligations.VerifyIrCaptureRuns
  intro d s hpos hconf hd htwo hmax hwf hmem
  refine ⟨scanIR (ones (totalIR s)) true, rfl, exec_verifyIrCapture_start hpos hconf hd htwo,
    fun pre r post hpre hr hpost => ⟨(putCapture (irlen s d) r s).mem, ?_, rx_putCapture hwf hmem ?_ _⟩⟩
  · have hpath : (pre ++ r ++ post).length = (ones (totalIR s)).length := by
      rw [length_capture_eq_totalIR hd hpre hr hpost, ones_length]
    change exec _ (takeResponse (.ok _) (issue .ir _ s)) = _
    rw [takeResponse_issue_captured rfl hpath,
      exec_verifyIrCapture_captured rfl rfl (stripIR_resumed_append hpre hpost r)]
    rfl
  · obtain ⟨-, -, -, -, hbuffer, -⟩ := Params_wf_bounds hwf
    rw [hr]
    exact hmax.trans hbuffer

end Sys2Proof.Machine
end

section
/-! The device DR commands (43_device_dr.md): the transfers (R231, R232), the measured width (R233) and the two commands that compare
it with EXPECT (R234, R235). -/

namespace Sys2Proof.Machine

/-! ### The observed width (R13, R187, R233) -/

/-- R187: a probe that answers measures a path shorter than its run. -/
theorem lt_of_evaluateProbe_ok {m l : Nat} {o : Bits} (h : evaluateProbe m o = .ok l) : l < m := by
  obtain ⟨-, hno⟩ | ⟨-, -, hno⟩ | ⟨hedge, hle, -, hlength⟩ := evaluateProbe_cases m o
  · exact nomatch hno.symm.trans h
  · exact nomatch hno.symm.trans h
  · cases hlength.symm.trans h
    omega

/-- R233: the total less one bit for each device before and after, which on a device of the chain is no truncated difference. -/
theorem ownDrLength_eq {s : State} {d : Nat} (hd : d < devCount s) (l : Nat) :
    ownDrLength s d l = (l : Int) - d - ((devCount s : Int) - 1 - d) := by
  rw [ownDrLength, devsBefore, devsAfter]
  omega

/-- R233: at least minus the other devices, and below the probe's run. -/
theorem ownDrLength_bounds {s : State} {d m l : Nat} {o : Bits} (hd : d < devCount s) (hok : evaluateProbe m o = .ok l) :
    -2 ^ 16 < ownDrLength s d l ∧ ownDrLength s d l < m := by
  have hcount : devCount s < 2 ^ 16 := s.chainN.isLt
  have hlt : l < m := lt_of_evaluateProbe_ok hok
  rw [ownDrLength_eq hd]
  omega

/-- R13: an integer in the signed range of a word is read back from its encoding. -/
theorem sext32_enc32 {c : Int} (hlow : -2 ^ 31 ≤ c) (hhigh : c < 2 ^ 31) : sext32 (enc32 c) = c :=
  BitVec.toInt_ofInt_eq_self (by decide) hlow hhigh

/-! ### Captures (R94, R230) -/

section
variable {s : State} {d : Nat}

/-- R230: a capture in three pieces, of the chain's lengths around the device, is as long as the padded sequence. -/
theorem length_capture_eq_padDR {b pre r post : Bits} (hpre : pre.length = devsBefore s d) (hr : r.length = b.length)
    (hpost : post.length = devsAfter s d) : (pre ++ r ++ post).length = (padDR s d b).length := by
  simp only [padDR_eq, List.length_append, ones_length, hpre, hr, hpost]

/-- R230: stripping reads only the chain's device count. -/
theorem stripDR_append_of_chainN {t : State} (hn : t.chainN = s.chainN) {pre post : Bits} (hpre : pre.length = devsBefore s d)
    (hpost : post.length = devsAfter s d) (r : Bits) : stripDR t d (pre ++ r ++ post) = some r :=
  (stripDR_congr hn d _).trans (stripDR_append hpre hpost r)

/-- R94, R186: a capture as long as the probe is handed to the command. -/
theorem takeResponse_probe_captured {o : Bits} (hlen : o.length = 2 * s.cfg.drProbeMax) (t : State) :
    takeResponse (.ok o) (issue .probe (probeReq s) t) = resumed .probe o t :=
  takeResponse_issue_captured rfl (hlen.trans (probeReq_bits_length s).symm)

theorem probeOutcome_resumed (o : Bits) (t : State) :
    probeOutcome (resumed .probe o t) = evaluateProbe t.cfg.drProbeMax o :=
  probeOutcome_of_reply rfl

/-- R36, R40: RX_LEN is exactly as wide as TX_LEN. -/
theorem ofNat_txCount (s : State) : BitVec.ofNat 16 (txCount s) = s.txLen := by
  rw [txCount, BitVec.ofNat_toNat, BitVec.setWidth_eq]

/-- R232: what a capture as long as the operand leaves, with RX_LEN = TX_LEN. -/
theorem putCapture_txCount (r : Bits) (s : State) :
    putCapture (txCount s) r s =
      { s with mem := writeBuffer s.mem rxBase (toValue r) s.cfg.seqWords, rxLen := s.txLen, result := zext32 (toValue r) } := by
  rw [putCapture, ofNat_txCount]

/-! ### The checks (R286) -/

theorem checkTxLen_passes (h : txCount s ≤ s.cfg.maxSeqBits) : (checkTxLen s).1 = false :=
  decide_eq_false (Nat.not_lt.mpr h)

theorem checkIrWidth_passes (h : txCount s = irlen s d) : (checkIrWidth s d).1 = false :=
  decide_eq_false (not_not_intro h)

theorem checkExpect_passes (h : s.expect.toNat ≤ s.cfg.maxSeqBits) : (checkExpect s).1 = false :=
  decide_eq_false (Nat.not_lt.mpr h)

/-- R286: the checks of a command that writes a DR operand, passed one after another. -/
theorem guarded_drOperand_passes (hconf : s.configured = true) (hd : d < devCount s)
    (hlen : txCount s ≤ s.cfg.maxSeqBits) (k : Result) :
    guarded [checkConfigured s, checkDev s d, checkTxLen s] s k = k := by
  rw [guarded_cons_passes (checkConfigured_passes hconf), guarded_cons_passes (checkDev_passes hd),
    guarded_cons_passes (checkTxLen_passes hlen), guarded_nil]

/-! ### The transfers' stretches (R231, R232) -/

theorem exec_writeDr_start (hpos : s.pos = .start) (hconf : s.configured = true) (hd : d < devCount s)
    (hlen : txCount s ≤ s.cfg.maxSeqBits) :
    exec (.writeDr d) s = .next (issue .dr (scanDR (padDR s d (txArg s)) s.idle false) s) := by
  rw [exec, execWriteDr, hpos]
  exact guarded_drOperand_passes hconf hd hlen _

theorem exec_writeDr_responded {o : Bits} (hpos : s.pos = .dr) (hreply : s.reply = .ok o) :
    exec (.writeDr d) s = .next (finish s) := by
  rw [exec, execWriteDr, hpos]
  exact onReply_of_ok hreply _

theorem exec_readWriteDr_start (hpos : s.pos = .start) (hconf : s.configured = true) (hd : d < devCount s)
    (hlen : txCount s ≤ s.cfg.maxSeqBits) :
    exec (.readWriteDr d) s = .next (issue .dr (scanDR (padDR s d (txArg s)) s.idle true) s) := by
  rw [exec, execReadWriteDr, hpos]
  exact guarded_drOperand_passes hconf hd hlen _

theorem exec_readWriteDr_captured {o r : Bits} (hpos : s.pos = .dr) (hreply : s.reply = .ok o)
    (hstrip : stripDR s d o = some r) :
    exec (.readWriteDr d) s = .next (finish (putCapture (txCount s) r s)) := by
  simp only [exec, execReadWriteDr, hpos, onReply_of_ok hreply, hstrip]

/-! ### The measuring commands' stretches (R233, R234, R235) -/

theorem exec_currentDrLength_start (hpos : s.pos = .start) (hconf : s.configured = true) (hd : d < devCount s) :
    exec (.currentDrLength d) s = .next (issue .probe (probeReq s) s) := by
  rw [exec, execCurrentDrLength, hpos]
  rw [guarded_cons_passes (checkConfigured_passes hconf), guarded_cons_passes (checkDev_passes hd), guarded_nil]

theorem exec_currentDrLength_measured {l : Nat} (hpos : s.pos = .probe) (hok : probeOutcome s = .ok l) :
    exec (.currentDrLength d) s = .next (finish { s with result := enc32 (ownDrLength s d l) }) := by
  rw [exec, execCurrentDrLength, hpos]
  exact onProbe_of_ok hok _

theorem exec_verifyDrLength_start (hpos : s.pos = .start) (hconf : s.configured = true) (hd : d < devCount s)
    (hlen : txCount s ≤ s.cfg.maxSeqBits) (hwidth : txCount s = irlen s d) :
    exec (.verifyDrLength d) s = .next (issue .ir (scanIR (padIR s d (txOperand s (irlen s d))) false) s) := by
  rw [exec, execVerifyDrLength, hpos, txArg, hwidth]
  exact guarded_irOperand_passes hconf hd hlen hwidth _

theorem exec_checkDr_start (hpos : s.pos = .start) (hconf : s.configured = true) (hd : d < devCount s)
    (hlen : txCount s ≤ s.cfg.maxSeqBits) (hwidth : txCount s = irlen s d) (hexpect : s.expect.toNat ≤ s.cfg.maxSeqBits) :
    exec (.checkDr d) s = .next (issue .ir (scanIR (padIR s d (txOperand s (irlen s d))) false) s) := by
  rw [exec, execCheckDr, hpos, txArg, hwidth]
  rw [guarded_cons_passes (checkConfigured_passes hconf), guarded_cons_passes (checkDev_passes hd),
    guarded_cons_passes (checkTxLen_passes hlen), guarded_cons_passes (checkIrWidth_passes hwidth),
    guarded_cons_passes (checkExpect_passes hexpect), guarded_nil]

/-- R234: once the instruction is written, the probe is issued. -/
theorem probeAfterIr_of_ok {o : Bits} (hreply : s.reply = .ok o) :
    probeAfterIr s = .next (issue .probe (probeReq s) s) :=
  onReply_of_ok hreply _

theorem exec_verifyDrLength_written {o : Bits} (hpos : s.pos = .ir) (hreply : s.reply = .ok o) :
    exec (.verifyDrLength d) s = .next (issue .probe (probeReq s) s) := by
  rw [exec, execVerifyDrLength, hpos]
  exact probeAfterIr_of_ok hreply

theorem exec_checkDr_written {o : Bits} (hpos : s.pos = .ir) (hreply : s.reply = .ok o) :
    exec (.checkDr d) s = .next (issue .probe (probeReq s) s) := by
  rw [exec, execCheckDr, hpos]
  exact probeAfterIr_of_ok hreply

theorem compareWidth_of_eq {l : Nat} (hok : probeOutcome s = .ok l) (heq : ownDrLength s d l = s.expect.toNat)
    (k : Int → Result) : compareWidth d s k = k (ownDrLength s d l) := by
  rw [compareWidth, onProbe_of_ok hok, if_neg (not_not_intro heq)]

theorem compareWidth_of_ne {l : Nat} (hok : probeOutcome s = .ok l) (hne : ownDrLength s d l ≠ s.expect.toNat)
    (k : Int → Result) : compareWidth d s k = .next (raiseMismatch (txArg s) (ownDrLength s d l) s) := by
  rw [compareWidth, onProbe_of_ok hok, if_pos hne]

theorem exec_verifyDrLength_probe (hpos : s.pos = .probe) :
    exec (.verifyDrLength d) s = compareWidth d s fun c => .next (finish { s with result := enc32 c }) := by
  rw [exec, execVerifyDrLength, hpos]

theorem exec_checkDr_probe (hpos : s.pos = .probe) :
    exec (.checkDr d) s =
      compareWidth d s fun _ => .next (issue .dr (scanDR (padDR s d (zeros s.expect.toNat)) 0 true) s) := by
  rw [exec, execCheckDr, hpos]

theorem exec_checkDr_captured {o r : Bits} (hpos : s.pos = .dr) (hreply : s.reply = .ok o)
    (hstrip : stripDR s d o = some r) :
    exec (.checkDr d) s = .next (finish (putCapture s.expect.toNat r s)) := by
  simp only [exec, execCheckDr, hpos, onReply_of_ok hreply, hstrip]

end

/-! ### The transfers run -/

/-- Settles O38: the checks pass and the padded operand is issued; what comes back is not looked at and the command completes. -/
theorem writeDrRuns : Obligations.WriteDrRuns := by
  unfold Obligations.WriteDrRuns
  intro d s hpos hconf hd hlen
  refine ⟨scanDR (padDR s d (txArg s)) s.idle false, rfl, exec_writeDr_start hpos hconf hd hlen, fun data => ?_⟩
  change exec _ (takeResponse (.ok data) (issue .dr _ s)) = _
  rw [takeResponse_issue_uncaptured rfl, exec_writeDr_responded rfl rfl]
  rfl

/-- Settles O39: the checks pass and the padded operand is issued; the capture, as long as the DR path, strips to the device's bits,
which go to RX. -/
theorem readWriteDrRuns : Obligations.ReadWriteDrRuns := by
  unfold Obligations.ReadWriteDrRuns
  intro d s hpos hconf hd hlen hwf hmem
  refine ⟨scanDR (padDR s d (txArg s)) s.idle true, rfl, exec_readWriteDr_start hpos hconf hd hlen,
    fun pre r post hpre hr hpost => ⟨(putCapture (txCount s) r s).mem, ?_, rx_putCapture hwf hmem (hr ▸ hlen) _⟩⟩
  have hpath : (pre ++ r ++ post).length = (padDR s d (txArg s)).length :=
    length_capture_eq_padDR hpre (hr.trans (txArg_length s).symm) hpost
  have hstrip : stripDR (resumed .dr (pre ++ r ++ post) s) d (pre ++ r ++ post) = some r :=
    stripDR_append_of_chainN rfl hpre hpost r
  change exec _ (takeResponse (.ok _) (issue .dr _ s)) = _
  rw [takeResponse_issue_captured rfl hpath, exec_readWriteDr_captured rfl rfl hstrip, putCapture_txCount]
  rfl

/-! ### The measuring commands run -/

/-- Settles O40: the checks pass and the probe is issued; its measure less the other devices' bits is the result, and lies in the
signed range of a word while the probe's run does. -/
theorem currentDrLengthRuns : Obligations.CurrentDrLengthRuns := by
  unfold Obligations.CurrentDrLengthRuns
  intro d s hpos hconf hd
  refine ⟨exec_currentDrLength_start hpos hconf hd, fun o l hlen hok => ?_⟩
  intro c
  have hc : ownDrLength s d l = c := ownDrLength_eq hd l
  rw [← hc]
  refine ⟨?_, fun hrun => ?_⟩
  · change exec _ (takeResponse (.ok o) (issue .probe _ s)) = _
    rw [takeResponse_probe_captured hlen, exec_currentDrLength_measured rfl ((probeOutcome_resumed o s).trans hok)]
    rfl
  · obtain ⟨hlow, hhigh⟩ := ownDrLength_bounds hd hok
    exact sext32_enc32 (by omega) (by omega)

/-- R234, R235: the state in which a verifying command compares, its IR write done and its probe's capture `o` handed to it
(`takeResponse_verifyProbe`). -/
def probed (o : Bits) (s : State) : State := resumed .probe o (resumed .ir [] s)

section
variable {s : State} {d l : Nat} {o : Bits}

theorem takeResponse_verifyProbe (hlen : o.length = 2 * s.cfg.drProbeMax) :
    takeResponse (.ok o) (issue .probe (probeReq s) (resumed .ir [] s)) = probed o s :=
  takeResponse_probe_captured hlen _

theorem probeOutcome_probed (hok : evaluateProbe s.cfg.drProbeMax o = .ok l) : probeOutcome (probed o s) = .ok l :=
  (probeOutcome_resumed o _).trans hok

theorem ownDrLength_probed (o : Bits) (s : State) (d l : Nat) : ownDrLength (probed o s) d l = ownDrLength s d l :=
  ownDrLength_congr rfl d l

theorem compareWidth_probed_of_eq (hok : evaluateProbe s.cfg.drProbeMax o = .ok l)
    (heq : ownDrLength s d l = s.expect.toNat) (k : Int → Result) :
    compareWidth d (probed o s) k = k (ownDrLength s d l) :=
  (compareWidth_of_eq (probeOutcome_probed hok) ((ownDrLength_probed o s d l).trans heq) k).trans
    (congrArg k (ownDrLength_probed o s d l))

/-- R283: a mismatch carries the instruction and both lengths, and ends the command. -/
theorem compareWidth_probed_of_ne (hok : evaluateProbe s.cfg.drProbeMax o = .ok l) (hwidth : txCount s = irlen s d)
    (hne : ownDrLength s d l ≠ s.expect.toNat) (k : Int → Result) :
    compareWidth d (probed o s) k =
      .next { s with phase := .idle, pos := .start, reply := .ok [], issued := s.issued + 2, detail := .drLength,
                     mmInstr := zext32 (toValue (txOperand s (irlen s d))), mmObserved := enc32 (ownDrLength s d l),
                     mmExpected := s.expect } := by
  have hinstr : txArg (probed o s) = txOperand s (irlen s d) := hwidth ▸ txArg_congr (t := probed o s) rfl rfl rfl
  have hlength := ownDrLength_probed o s d l
  rw [compareWidth_of_ne (probeOutcome_probed hok) (hlength.trans_ne hne), hinstr, hlength]
  rfl

end

/-- Settles O41: the checks pass, the instruction is written and the probe issued; its measure less the other devices' bits is
compared with EXPECT. -/
theorem verifyDrLengthRuns : Obligations.VerifyDrLengthRuns := by
  unfold Obligations.VerifyDrLengthRuns
  intro d s hpos hconf hd hlen hwidth ir s1 s2
  refine ⟨exec_verifyDrLength_start hpos hconf hd hlen hwidth, fun data => ?_, fun o l ho hok => ?_⟩
  · change exec _ (takeResponse (.ok data) (issue .ir _ s)) = _
    rw [takeResponse_issue_uncaptured rfl, exec_verifyDrLength_written rfl rfl]
    rfl
  · intro c
    have hc : ownDrLength s d l = c := ownDrLength_eq hd l
    have hcompare : exec (.verifyDrLength d) (takeResponse (.ok o) s2) =
        compareWidth d (probed o s) fun n => .next (finish { probed o s with result := enc32 n }) :=
      (congrArg _ (takeResponse_verifyProbe ho)).trans (exec_verifyDrLength_probe rfl)
    rw [hcompare, ← hc]
    refine ⟨fun heq => ?_, fun hne => compareWidth_probed_of_ne hok hwidth hne _⟩
    rw [compareWidth_probed_of_eq hok heq]
    rfl

/-- Settles O42: as O41 up to the comparison; on a match zeros are issued for the device's DR, and the capture, as long as the DR
path, strips to the device's bits, which go to RX. -/
theorem checkDrRuns : Obligations.CheckDrRuns := by
  unfold Obligations.CheckDrRuns
  intro d s hpos hconf hd hlen hwidth hexpect hwf hmem e ir rd s1 s2
  refine ⟨exec_checkDr_start hpos hconf hd hlen hwidth hexpect, fun data => ?_, fun o l ho hok => ?_⟩
  · change exec _ (takeResponse (.ok data) (issue .ir _ s)) = _
    rw [takeResponse_issue_uncaptured rfl, exec_checkDr_written rfl rfl]
    rfl
  · intro c s3
    have hc : ownDrLength s d l = c := ownDrLength_eq hd l
    have hcompare : exec (.checkDr d) (takeResponse (.ok o) s2) =
        compareWidth d (probed o s) fun _ => .next (issue .dr rd (probed o s)) :=
      (congrArg _ (takeResponse_verifyProbe ho)).trans (exec_checkDr_probe rfl)
    rw [hcompare, ← hc]
    refine ⟨fun hne => compareWidth_probed_of_ne hok hwidth hne _,
      fun heq => ⟨compareWidth_probed_of_eq hok heq _, fun pre r post hpre hr hpost =>
        ⟨(putCapture e r s).mem, ?_, rx_putCapture hwf hmem (hr ▸ hexpect) _⟩⟩⟩
    have hpath : (pre ++ r ++ post).length = rd.bits.length :=
      length_capture_eq_padDR hpre (hr.trans (zeros_length e).symm) hpost
    have hstrip : stripDR (resumed .dr (pre ++ r ++ post) (probed o s)) d (pre ++ r ++ post) = some r :=
      stripDR_append_of_chainN (s := s) rfl hpre hpost r
    change exec _ (takeResponse (.ok _) (issue .dr rd (probed o s))) = _
    rw [takeResponse_issue_captured rfl hpath, exec_checkDr_captured rfl rfl hstrip]
    rfl

end Sys2Proof.Machine
end

section
/-! The survey command (44_survey.md): its stretches (R260, R261, R262) and the acknowledgement of a record (R263, R44). -/

namespace Sys2Proof.Machine

/-! ### The IR scan of one value (R261) -/

/-- R261: the request that writes the value `v` to device `d`'s IR, capture off (`surveyLoop_of_lt`). -/
def surveyRequest (s : State) (d v : Nat) : ScanReq := scanIR (padIR s d (bitsOf v (irlen s d))) false

theorem surveyRequest_eq (s : State) (d v : Nat) : surveyRequest s d v =
    scanIR (ones (irlenBefore s d) ++ bitsOf v (irlen s d) ++ ones (irlenAfter s d)) false := rfl

/-- The request depends on the loaded chain alone. -/
theorem surveyRequest_congr {s t : State} (hmem : t.mem = s.mem) (hn : t.chainN = s.chainN) (d v : Nat) :
    surveyRequest t d v = surveyRequest s d v := by
  rw [surveyRequest, surveyRequest, padIR_congr hmem hn, irlen_congr hmem]

theorem bitsOf_zero : ∀ n, bitsOf 0 n = zeros n
  | 0 => rfl
  | n + 1 => by rw [bitsOf, bitsOf_zero n, Nat.zero_testBit, zeros, zeros, List.replicate_succ]

section
variable {s : State} {d : Nat}

/-! ### The stretches of SURVEY (R260, R261) -/

/-- R260: the loop head in `t`, its request by a state `s` with the same chain. -/
theorem surveyLoop_of_lt {t : State} (hmem : t.mem = s.mem) (hn : t.chainN = s.chainN)
    (h : t.survNext < 2 ^ irlen t t.survDev) :
    surveyLoop t = .next (issue .ir (surveyRequest s t.survDev t.survNext) t) := by
  rcases surveyLoop_cases t with ⟨-, hl⟩ | ⟨hge, -⟩
  · rw [hl, ← surveyRequest_congr hmem hn, surveyRequest]
  · omega

theorem surveyLoop_of_le (h : 2 ^ irlen s s.survDev ≤ s.survNext) : surveyLoop s = .next (surveyFinish s) := by
  rcases surveyLoop_cases s with ⟨hlt, -⟩ | ⟨-, hl⟩
  · omega
  · exact hl

theorem exec_survey_start (hpos : s.pos = .start) (hconf : s.configured = true) (hd : d < devCount s) :
    exec (.survey d) s =
      .next (issue .ir (surveyRequest s d 0) { s with survDev := d, survNext := 0, survCount := 0 }) := by
  rw [exec, execSurvey, hpos]
  simp only [guarded_cons_passes (checkConfigured_passes hconf), guarded_cons_passes (checkDev_passes hd), guarded_nil]
  exact surveyLoop_of_lt rfl rfl (Nat.two_pow_pos _)

/-- R261, D16: a failed IR write is recorded, and no probe is issued. -/
theorem exec_survey_unwritten {e : Detail} (hpos : s.pos = .ir) (hreply : s.reply = .failed e) :
    exec (.survey d) s = .next (emitRecord e 0 s) := by
  simp only [exec, execSurvey, hpos, hreply]

theorem exec_survey_written {o : Bits} (hpos : s.pos = .ir) (hreply : s.reply = .ok o) :
    exec (.survey d) s = .next (issue .probe (probeReq s) s) := by
  simp only [exec, execSurvey, hpos, hreply]

theorem exec_survey_probed (hpos : s.pos = .probe) : exec (.survey d) s = .next (surveyRecord s) := by
  simp only [exec, execSurvey, hpos]

/-! ### The record (R262) -/

theorem surveyRecord_of_error {e : Detail} (h : probeOutcome s = .error e) : surveyRecord s = emitRecord e 0 s := by
  rw [surveyRecord, h]

theorem surveyRecord_of_ok {l : Nat} (h : probeOutcome s = .ok l) :
    surveyRecord s = emitRecord .none (ownDrLength s s.survDev l) s := by
  rw [surveyRecord, h]

theorem surveyRecord_cases (s : State) : ∃ e c, surveyRecord s = emitRecord e c s := by
  cases h : probeOutcome s with
  | error e => exact ⟨_, _, surveyRecord_of_error h⟩
  | ok l => exact ⟨_, _, surveyRecord_of_ok h⟩

/-- R262: the record of an error carries no length. -/
theorem emitRecord_of_error {e : Detail} (he : e ≠ .none) (c : Int) (s : State) :
    emitRecord e c s = { s with phase := .waitAck, pos := .record, reply := .ok [],
                                survIr := zext32 s.survNext, survStat := e, survDrlen := 0 } := by
  rw [emitRecord, if_neg he]

theorem emitRecord_of_length (c : Int) (s : State) :
    emitRecord .none c s = { s with phase := .waitAck, pos := .record, reply := .ok [],
                                    survIr := zext32 s.survNext, survStat := .none, survDrlen := enc32 c } := by
  rw [emitRecord, if_pos rfl]

/-! ### The acknowledgement (R263) -/

theorem hostWrite_survAck (w : Word) (s : State) :
    hostWrite 0x038 4 w s = if s.recValid then acknowledge w s else .next s :=
  hostWrite_reg (by decide) (regAt_low (by decide))

theorem acknowledge_stop {w : Word} (hstop : w.getLsbD 1 = true) (s : State) : acknowledge w s =
    .next (surveyFinish { s with phase := .running s.cmd, survCount := s.survCount + 1 }) := by
  rw [acknowledge, if_pos hstop]

theorem acknowledge_next_value {w : Word} (hstop : w.getLsbD 1 = false) (hnext : w.getLsbD 0 = true)
    (hlt : s.survNext + 1 < 2 ^ irlen s s.survDev) : acknowledge w s =
      .next (issue .ir (surveyRequest s s.survDev (s.survNext + 1))
        { s with phase := .running s.cmd, survCount := s.survCount + 1, survNext := s.survNext + 1 }) := by
  rw [acknowledge, if_neg (Bool.not_eq_true _ ▸ hstop), if_pos hnext]
  exact surveyLoop_of_lt rfl rfl hlt

theorem acknowledge_last_value {w : Word} (hstop : w.getLsbD 1 = false) (hnext : w.getLsbD 0 = true)
    (hle : 2 ^ irlen s s.survDev ≤ s.survNext + 1) : acknowledge w s =
      .next (surveyFinish { s with phase := .running s.cmd, survCount := s.survCount + 1, survNext := s.survNext + 1 }) := by
  rw [acknowledge, if_neg (Bool.not_eq_true _ ▸ hstop), if_pos hnext]
  exact surveyLoop_of_le hle

theorem acknowledge_ignored {w : Word} (hstop : w.getLsbD 1 = false) (hnext : w.getLsbD 0 = false) (s : State) :
    acknowledge w s = .next s := by
  rw [acknowledge, if_neg (Bool.not_eq_true _ ▸ hstop), if_neg (Bool.not_eq_true _ ▸ hnext)]

end

/-! ### The statements -/

/-- Settles O43: both checks pass, and the loop head writes the value 0, which is below `2^irlen` whatever the width. -/
theorem surveyStarts : Obligations.SurveyStarts := by
  unfold Obligations.SurveyStarts
  intro d s hpos hconf hd
  rw [exec_survey_start hpos hconf hd, surveyRequest_eq, bitsOf_zero]
  rfl

/-- Settles O44: the IR scan's reply decides between a record and the probe, and a probe's outcome becomes the record. -/
theorem surveyRecordsEveryOutcome : Obligations.SurveyRecordsEveryOutcome := by
  unfold Obligations.SurveyRecordsEveryOutcome
  intro d s
  refine ⟨fun hpos e hreply he => ?_, fun hpos o hreply => exec_survey_written hpos hreply,
    fun hpos e he hfailed => ?_, fun hpos hd o l hreply hok => ?_⟩
  · rw [exec_survey_unwritten hpos hreply, emitRecord_of_error he]
  · have houtcome : probeOutcome s = .error e := by
      rcases hfailed with hreply | ⟨o, hreply, herr⟩
      · rw [probeOutcome, hreply]
      · exact (probeOutcome_of_reply hreply).trans herr
    rw [exec_survey_probed hpos, surveyRecord_of_error houtcome, emitRecord_of_error he]
  · rw [exec_survey_probed hpos, surveyRecord_of_ok ((probeOutcome_of_reply hreply).trans hok), emitRecord_of_length,
      ownDrLength_eq hd]

/-- Settles O45: a write to SURV_ACK is the acknowledgement while a record is out, which goes by STOP, then NEXT, then whether
the cursor's next value is one of the device's. -/
theorem surveyAcknowledgement : Obligations.SurveyAcknowledgement := by
  unfold Obligations.SurveyAcknowledgement
  intro s w
  rw [hostWrite_survAck]
  refine ⟨fun hrec => by rw [hrec]; rfl, fun hrec => ?_⟩
  rw [if_pos hrec]
  refine ⟨fun hstop => acknowledge_stop hstop s, fun hstop hnext hlt => ?_,
    fun hstop hnext hle => acknowledge_last_value hstop hnext hle, fun hstop hnext => acknowledge_ignored hstop hnext s⟩
  rw [acknowledge_next_value hstop hnext hlt, surveyRequest_eq]
  rfl

end Sys2Proof.Machine
end

section
/-! A full survey as a run (R265): the machine's steps on the inputs of `surveyInputs`, one round for each IR value, and the
induction over the values. -/

namespace Sys2Proof.Machine

/-! ### Running the machine -/

theorem run_succ {M : Host.Core} {s t : M.State} (h : M.step s = .next t) (k : Nat) : M.run (k + 1) s = M.run k t := by
  rw [Host.Core.run, h]

theorem run_one {M : Host.Core} (s : M.State) : M.run 1 s = M.step s := by
  rw [Host.Core.run]
  cases M.step s <;> rfl

theorem run_add {M : Host.Core} {t : M.State} (k : Nat) :
    ∀ {j : Nat} {s : M.State}, M.run j s = .next t → M.run (j + k) s = M.run k t
  | 0, s, h => by
    cases h
    rw [Nat.zero_add]
  | j + 1, s, h => by
    rw [Host.Core.run] at h
    cases hs : M.step s with
    | next u =>
      rw [hs] at h
      rw [Nat.add_right_comm, run_succ hs, run_add k h]
    | fault r | refused r => cases hs ▸ h

/-- `k` steps of this machine, over the model's own types. -/
def runSteps (k : Nat) (s : State) : Result := Host.Core.run Sys2Proof.core k s

theorem runSteps_succ {s t : State} (h : step s = .next t) (k : Nat) : runSteps (k + 1) s = runSteps k t :=
  run_succ (M := Sys2Proof.core) h k

theorem runSteps_one (s : State) : runSteps 1 s = step s := run_one (M := Sys2Proof.core) s

theorem runSteps_add {s t : State} {j : Nat} (k : Nat) (h : runSteps j s = .next t) :
    runSteps (j + k) s = runSteps k t :=
  run_add (M := Sys2Proof.core) k h

section
variable {t : State} {rest : List Input}

theorem step_write {addr size : Nat} {v : Word} (hin : t.inbox = .write addr size v :: rest) :
    step t = hostWrite addr size v (popped t) := by
  rw [step, popped, hin, List.tail_cons]

theorem controllerStep_running {w : Word} {i : Instr} (hrun : t.phase = .running w) (hdec : decode w = .command i) :
    controllerStep t = exec i t := by
  rw [controllerStep, hrun]
  simp only [runWord, hdec]

/-- The state in which the command goes on once the outstanding request `req` is answered with `r` as an input: the driver holds
`drv` then, and `rest` is still to arrive (`runSteps_answered`). -/
def answered (req : ScanReq) (r : Response) (drv : Driver) (rest : List Input) (t : State) : State :=
  { t with phase := .running t.cmd, reply := replyOf req r, driver := drv, inbox := rest }

/-- R95: the response to the last request is taken, and a tick runs the command's next stretch. -/
theorem runSteps_answered {req : ScanReq} {r : Response} {i : Instr} (hwait : t.phase = .waitScan req)
    (hin : t.inbox = .respond t.issued r :: .tick :: rest) (hdec : decode t.cmd = .command i) :
    ∃ drv, runSteps 2 t = exec i (answered req r drv rest t) := by
  have hrespond : step t = .next (portResponse t.issued r { t with inbox := .tick :: rest }) := by rw [step, hin]
  rcases portResponse_cases t.issued r { t with inbox := .tick :: rest } with ⟨req', -, hwait', htaken⟩ | ⟨hno, -⟩
  · cases hwait'.symm.trans hwait
    rw [htaken] at hrespond
    rw [runSteps_succ hrespond, runSteps_one, step_of_controllerMoves rfl, controllerStep_running rfl hdec]
    exact ⟨_, rfl⟩
  · exact absurd hwait (hno.resolve_left (absurd rfl) req)

end

theorem SameArguments.trans {s t u : State} (h : SameArguments s t) (h' : SameArguments t u) : SameArguments s u where
  cfg := h'.cfg.trans h.cfg
  cmd := h'.cmd.trans h.cmd
  txLen := h'.txLen.trans h.txLen
  idle := h'.idle.trans h.idle
  expect := h'.expect.trans h.expect
  chainN := h'.chainN.trans h.chainN
  configured := h'.configured.trans h.configured
  mem := h'.mem.trans h.mem

/-! ### The places of a survey -/

/-- The phase at each place of a survey of device `d` at the value `v`: its IR scan, its probe, its record; elsewhere the command
is running. -/
def surveyPhase (s : State) (d v : Nat) : Pos → Phase
  | .ir => .waitScan (surveyRequest s d v)
  | .probe => .waitScan (probeReq s)
  | .record => .waitAck
  | .start | .dr => .running s.cmd

/-- `t` is at the place `p` of the value `v` in the survey of device `d` that was accepted in `s`: `n` requests have been put on
the port, and `inputs` are still to arrive. -/
structure SurveyAt (s : State) (d v n : Nat) (inputs : List Input) (p : Pos) (t : State) : Prop where
  args : SameArguments s t
  detail : t.detail = s.detail
  survDev : t.survDev = d
  survNext : t.survNext = v
  survCount : t.survCount = v
  pos : t.pos = p
  phase : t.phase = surveyPhase s d v p
  issued : t.issued = n
  inbox : t.inbox = inputs

/-- `t` shows the record of the value `v`; that of a failed IR write is a DRIVER_FAILURE without length (R261, R262). -/
structure ShowsRecord (v : Nat) (answer : Option Response) (t : State) : Prop where
  survIr : t.survIr = zext32 v
  unwritten : answer = none → t.survStat = .driverFailure ∧ t.survDrlen = 0

section
variable {s t : State} {d v n : Nat} {inputs rest : List Input} {p : Pos} {answer : Option Response}
  {answers : List (Option Response)}

/-- R95: a scan of the survey is answered, and the next stretch runs. -/
theorem SurveyAt.answered {r : Response} {req : ScanReq} (h : SurveyAt s d v n (.respond n r :: .tick :: rest) p t)
    (hdec : decode s.cmd = .command (.survey d)) (hwait : surveyPhase s d v p = .waitScan req) :
    ∃ drv, runSteps 2 t = exec (.survey d) (answered req r drv rest t) :=
  runSteps_answered (h.phase.trans hwait) (h.issued ▸ h.inbox) (h.args.cmd ▸ hdec)

/-- R262: a record is presented for the cursor's value, and no request is put on the port. -/
theorem SurveyAt.emitRecord (h : SurveyAt s d v n inputs p t) (req : ScanReq) (r : Response) (drv : Driver) (e : Detail)
    (c : Int) : SurveyAt s d v n rest .record (emitRecord e c (Machine.answered req r drv rest t)) :=
  { h with args := h.args.trans (by constructor <;> rfl), pos := rfl, phase := rfl, inbox := rfl }

/-- R261: a failed IR write is recorded. -/
theorem SurveyAt.unwritten (h : SurveyAt s d v n (.respond n .transportError :: .tick :: rest) .ir t)
    (hdec : decode s.cmd = .command (.survey d)) :
    ∃ u, runSteps 2 t = .next u ∧ SurveyAt s d v n rest .record u ∧ ShowsRecord v none u := by
  obtain ⟨drv, hrun⟩ := h.answered hdec rfl
  exact ⟨_, hrun.trans (exec_survey_unwritten h.pos rfl), h.emitRecord _ _ _ _ _,
    congrArg zext32 h.survNext, fun _ => ⟨rfl, rfl⟩⟩

/-- R261: an IR write that did not fail is followed by the probe. -/
theorem SurveyAt.written {data : Bits} (h : SurveyAt s d v n (.respond n (.ok data) :: .tick :: rest) .ir t)
    (hdec : decode s.cmd = .command (.survey d)) :
    ∃ u, runSteps 2 t = .next u ∧ SurveyAt s d v (n + 1) rest .probe u := by
  obtain ⟨drv, hrun⟩ := h.answered hdec rfl
  refine ⟨_, hrun.trans (exec_survey_written h.pos rfl),
    { h with args := h.args.trans (by constructor <;> rfl), pos := rfl, phase := ?_, issued := ?_, inbox := rfl }⟩
  · exact congrArg Phase.waitScan (probeReq_congr h.args.cfg)
  · exact congrArg (· + 1) h.issued

/-- R261: whatever answers the probe, a record is presented. -/
theorem SurveyAt.probed {r : Response} (h : SurveyAt s d v n (.respond n r :: .tick :: rest) .probe t)
    (hdec : decode s.cmd = .command (.survey d)) (r' : Response) :
    ∃ u, runSteps 2 t = .next u ∧ SurveyAt s d v n rest .record u ∧ ShowsRecord v (some r') u := by
  obtain ⟨drv, hrun⟩ := h.answered hdec rfl
  have hpos : (Machine.answered (probeReq s) r drv rest t).pos = .probe := h.pos
  obtain ⟨e, c, hrecord⟩ := surveyRecord_cases (Machine.answered (probeReq s) r drv rest t)
  exact ⟨_, hrun.trans ((exec_survey_probed hpos).trans (congrArg _ hrecord)), h.emitRecord _ _ _ _ _,
    congrArg zext32 h.survNext, nofun⟩

/-- R261, R262: a value's scans, answered in any way, lead to its record; the probe is the one request made on the way, unless
the IR scan failed. -/
theorem SurveyAt.presents (h : SurveyAt s d v n (surveyInputs n (answer :: answers)) .ir t)
    (hdec : decode s.cmd = .command (.survey d)) :
    ∃ u, runSteps (2 + 2 * answer.isSome.toNat) t = .next u ∧
      SurveyAt s d v (n + answer.isSome.toNat)
        (.write 0x038 4 1 :: surveyInputs (n + answer.isSome.toNat + 1) answers) .record u ∧
      ShowsRecord v answer u := by
  cases answer with
  | none => exact h.unwritten hdec
  | some r =>
    obtain ⟨u, hrun, hu⟩ := SurveyAt.written h hdec
    obtain ⟨w, hrun', hw⟩ := hu.probed hdec r
    exact ⟨w, (runSteps_add 2 hrun).trans hrun', hw⟩

/-- R263: a record is acknowledged with NEXT in the step of the write. -/
theorem SurveyAt.acknowledged (h : SurveyAt s d v n (.write 0x038 4 1 :: rest) .record t) :
    ∃ u, runSteps 1 t = acknowledge 1 u ∧ SurveyAt s d v n rest .record u ∧ u.survIr = t.survIr := by
  have hrec : (popped t).recValid = true := recValid_iff.mpr h.phase
  refine ⟨popped t, ?_,
    { h with args := h.args.trans (by constructor <;> rfl), inbox := congrArg List.tail h.inbox }, rfl⟩
  rw [runSteps_one, step_write h.inbox, hostWrite_survAck, if_pos hrec]

theorem SurveyAt.irlen_cursor (h : SurveyAt s d v n inputs p t) : irlen t t.survDev = irlen s d := by
  rw [irlen_congr h.args.mem, h.survDev]

/-- R263: acknowledged with NEXT, the survey goes on with the next value. -/
theorem SurveyAt.goesOn (h : SurveyAt s d v n (.write 0x038 4 1 :: rest) .record t) (hlt : v + 1 < 2 ^ irlen s d) :
    ∃ u, runSteps 1 t = .next u ∧ SurveyAt s d (v + 1) (n + 1) rest .ir u := by
  obtain ⟨u, hrun, hu, -⟩ := h.acknowledged
  have hcursor : u.survNext + 1 < 2 ^ irlen u u.survDev := by rwa [hu.irlen_cursor, hu.survNext]
  have hrequest : surveyRequest u u.survDev (u.survNext + 1) = surveyRequest s d (v + 1) := by
    rw [surveyRequest_congr hu.args.mem hu.args.chainN, hu.survDev, hu.survNext]
  exact ⟨_, hrun.trans (acknowledge_next_value (by decide) (by decide) hcursor),
    { args := hu.args.trans (by constructor <;> rfl)
      detail := hu.detail
      survDev := hu.survDev
      survNext := congrArg (· + 1) hu.survNext
      survCount := congrArg (· + 1) hu.survCount
      pos := rfl
      phase := congrArg Phase.waitScan hrequest
      issued := congrArg (· + 1) hu.issued
      inbox := hu.inbox }⟩

/-- R263, R260: with the last value's record acknowledged the survey completes. -/
theorem SurveyAt.completes (h : SurveyAt s d v n (.write 0x038 4 1 :: rest) .record t) (hle : 2 ^ irlen s d ≤ v + 1) :
    ∃ u, runSteps 1 t = .next u ∧ u.phase = .idle ∧ u.inbox = rest ∧ u.detail = s.detail ∧ u.result = zext32 (v + 1) ∧
      u.survIr = t.survIr ∧ u.issued = n := by
  obtain ⟨u, hrun, hu, hir⟩ := h.acknowledged
  have hcursor : 2 ^ irlen u u.survDev ≤ u.survNext + 1 := by rwa [hu.irlen_cursor, hu.survNext]
  exact ⟨_, hrun.trans (acknowledge_last_value (by decide) (by decide) hcursor), rfl, hu.inbox, hu.detail,
    congrArg (fun count => zext32 (count + 1)) hu.survCount, hir, hu.issued⟩

end

/-! ### Counting steps and requests -/

/-- How many of the values' IR scans did not fail, and so how many probes are issued. -/
def probeCount (answers : List (Option Response)) : Nat := (answers.filter Option.isSome).length

/-- How many requests have been put on the port before the value `v`'s IR scan. -/
def surveyRequests (s : State) (answers : List (Option Response)) (v : Nat) : Nat := s.issued + v + probeCount (answers.take v)

/-- How many steps a survey takes up to the value `v`'s IR scan (`length_surveyInputs`). -/
def surveySteps (answers : List (Option Response)) (v : Nat) : Nat := 1 + (3 * v + 2 * probeCount (answers.take v))

theorem length_surveyInputs : ∀ (n : Nat) (answers : List (Option Response)),
    (surveyInputs n answers).length = 3 * answers.length + 2 * probeCount answers
  | _, [] => rfl
  | n, none :: rest => by
    have ih := length_surveyInputs (n + 1) rest
    simp only [surveyInputs, List.length_cons, probeCount, List.filter_cons, Option.isSome_none] at ih ⊢
    simp only [Bool.false_eq_true, if_false]
    omega
  | n, some r :: rest => by
    have ih := length_surveyInputs (n + 2) rest
    simp only [surveyInputs, List.length_cons, probeCount, List.filter_cons, Option.isSome_some, if_true] at ih ⊢
    omega

section
variable {s : State} {answers : List (Option Response)} {v : Nat}

theorem probeCount_take_succ (hv : v < answers.length) :
    probeCount (answers.take (v + 1)) = probeCount (answers.take v) + answers[v].isSome.toNat := by
  rw [probeCount, List.take_succ_eq_append_getElem hv, List.filter_append, List.length_append, probeCount]
  cases answers[v] <;> rfl

theorem surveyRequests_succ (hv : v < answers.length) :
    surveyRequests s answers (v + 1) = surveyRequests s answers v + answers[v].isSome.toNat + 1 := by
  simp only [surveyRequests, probeCount_take_succ hv]
  omega

theorem surveySteps_succ (hv : v < answers.length) :
    surveySteps answers (v + 1) = surveySteps answers v + (2 + 2 * answers[v].isSome.toNat) + 1 := by
  simp only [surveySteps, probeCount_take_succ hv]
  omega

theorem surveySteps_eq_length (n : Nat) (hv : v ≤ answers.length) :
    1 + (surveyInputs n (answers.take v)).length = surveySteps answers v := by
  rw [length_surveyInputs, List.length_take_of_le hv, surveySteps]

end

/-! ### The whole survey -/

/-- A SURVEY of device `d` accepted in `s` with a chain loaded, the inputs of a full survey with these answers to come. -/
structure FullSurvey (d : Nat) (s : State) (answers : List (Option Response)) : Prop where
  phase : s.phase = .running s.cmd
  decodes : decode s.cmd = .command (.survey d)
  pos : s.pos = .start
  configured : s.configured = true
  dev : d < devCount s
  length : answers.length = 2 ^ irlen s d
  inbox : s.inbox = .tick :: surveyInputs (s.issued + 1) answers

section
variable {d v : Nat} {s : State} {answers : List (Option Response)}

/-- R260: the first step writes the value 0. -/
theorem FullSurvey.starts (h : FullSurvey d s answers) : ∃ t, runSteps 1 s = .next t ∧
    SurveyAt s d 0 (s.issued + 1) (surveyInputs (s.issued + 1) answers) .ir t := by
  have hstart : exec (.survey d) (popped s) =
      .next (issue .ir (surveyRequest (popped s) d 0) { popped s with survDev := d, survNext := 0, survCount := 0 }) :=
    exec_survey_start h.pos h.configured h.dev
  have hstep : step s = exec (.survey d) (popped s) :=
    (step_of_controllerMoves (by rw [controllerMoves, h.inbox])).trans (controllerStep_running h.phase h.decodes)
  exact ⟨_, (runSteps_one s).trans (hstep.trans hstart),
    { args := by constructor <;> rfl
      detail := rfl
      survDev := rfl
      survNext := rfl
      survCount := rfl
      pos := rfl
      phase := congrArg Phase.waitScan (surveyRequest_congr (s := s) (t := popped s) rfl rfl d 0)
      issued := rfl
      inbox := congrArg List.tail h.inbox }⟩

/-- The run is at the value `v`'s IR scan, which is the latest request, and the answers from `v` on are still to come. -/
def ReachesValue (d : Nat) (s : State) (answers : List (Option Response)) (v : Nat) : Prop :=
  ∃ t, runSteps (surveySteps answers v) s = .next t ∧
    SurveyAt s d v (surveyRequests s answers v + 1) (surveyInputs (surveyRequests s answers v + 1) (answers.drop v)) .ir t

/-- R261: from a value's IR scan the run reaches its record. -/
theorem FullSurvey.presents (h : FullSurvey d s answers) (hv : v < answers.length) (hreach : ReachesValue d s answers v) :
    ∃ t, runSteps (surveySteps answers v + (2 + 2 * answers[v].isSome.toNat)) s = .next t ∧
      SurveyAt s d v (surveyRequests s answers (v + 1))
        (.write 0x038 4 1 :: surveyInputs (surveyRequests s answers (v + 1) + 1) (answers.drop (v + 1))) .record t ∧
      ShowsRecord v answers[v] t := by
  obtain ⟨t, hrun, ht⟩ := hreach
  rw [List.drop_eq_getElem_cons hv] at ht
  obtain ⟨u, hrun', hu, hshows⟩ := ht.presents h.decodes
  rw [Nat.add_right_comm, ← surveyRequests_succ hv] at hu
  exact ⟨u, (runSteps_add _ hrun).trans hrun', hu, hshows⟩

/-- R260, R263: the run reaches the values' IR scans in order, by induction on the value. -/
theorem FullSurvey.reachesValue (h : FullSurvey d s answers) : ∀ {v : Nat}, v < 2 ^ irlen s d → ReachesValue d s answers v
  | 0, _ => h.starts
  | v + 1, hv => by
    have hv' : v < answers.length := by rw [h.length]; omega
    obtain ⟨t, hrun, ht, -⟩ := h.presents hv' (h.reachesValue (by omega))
    obtain ⟨u, hrun', hu⟩ := ht.goesOn hv
    rw [ReachesValue, surveySteps_succ hv']
    exact ⟨u, (runSteps_add 1 hrun).trans hrun', hu⟩

end

/-- Settles O46: by induction the run reaches every value's IR scan; from there its record follows, after the probe where the IR
scan did not fail, and the acknowledgement of the last value's record completes the survey. -/
theorem fullSurveyCoversEveryValue : Obligations.FullSurveyCoversEveryValue := by
  unfold Obligations.FullSurveyCoversEveryValue
  intro d s answers hphase hdec hpos hconf hd hdetail hlen hin after steps requests
  have h : FullSurvey d s answers := ⟨hphase, hdec, hpos, hconf, hd, hlen, hin⟩
  have hsteps : ∀ v ≤ 2 ^ irlen s d, steps v = surveySteps answers v := fun v hv => surveySteps_eq_length _ (hlen ▸ hv)
  refine ⟨fun v hv => ?_, ?_⟩
  · have hv' : v < answers.length := hlen ▸ hv
    have hreach := h.reachesValue hv
    rw [hsteps v hv.le, hsteps (v + 1) hv, surveySteps_succ hv', Nat.add_sub_cancel]
    refine ⟨?_, fun r hr => ?_, ?_⟩
    · obtain ⟨t, hrun, ht⟩ := hreach
      exact ⟨t, hrun, ht.issued, ht.phase⟩
    · obtain ⟨t, hrun, ht⟩ := hreach
      obtain ⟨_, hvalue⟩ := List.getElem?_eq_some_iff.mp hr
      rw [List.drop_eq_getElem_cons hv', hvalue] at ht
      obtain ⟨u, hrun', hu⟩ := SurveyAt.written ht hdec
      exact ⟨u, (runSteps_add 2 hrun).trans hrun', hu.issued, hu.phase⟩
    · obtain ⟨t, hrun, ht, hshows⟩ := h.presents hv' hreach
      refine ⟨t, hrun, ht.issued, ht.phase, hshows.survIr, fun hnone => hshows.unwritten ?_⟩
      exact Option.some.inj ((List.getElem?_eq_getElem hv').symm.trans hnone)
  · have hlast : 2 ^ irlen s d - 1 + 1 = 2 ^ irlen s d := Nat.sub_add_cancel (Nat.two_pow_pos _)
    have hv : 2 ^ irlen s d - 1 < answers.length := by omega
    obtain ⟨t, hrun, ht, hshows⟩ := h.presents hv (h.reachesValue (by omega))
    obtain ⟨u, hrun', hidle, hinbox, hdetail', hresult, hir, hissued⟩ := ht.completes hlast.ge
    have hall : answers.take (2 ^ irlen s d) = answers := List.take_of_length_le hlen.le
    have hlength : s.inbox.length = surveySteps answers (2 ^ irlen s d - 1 + 1) := by
      rw [hin, List.length_cons, Nat.add_comm, hlast, ← hsteps _ le_rfl]
      simp only [steps, hall]
    refine ⟨u, ?_, hidle, ?_, hdetail'.trans hdetail, ?_, hir.trans hshows.survIr, ?_⟩
    · rw [hlength, surveySteps_succ hv]
      exact (runSteps_add 1 hrun).trans hrun'
    · rw [hinbox, hlast, ← hlen, List.drop_length]
      rfl
    · rw [hresult, hlast]
      rfl
    · rw [hissued, hlast, surveyRequests, hall, probeCount]

end Sys2Proof.Machine
end

section
/-! Taking an error (60_exceptions.md): the static checks in R286's order, and what every command leaves alone (R289). -/

namespace Sys2Proof.Machine

/-! ### The static checks in order (R286) -/

theorem firstError_cons (c : Bool × Detail) (rest : List (Bool × Detail)) :
    firstError (c :: rest) = if c.1 = true then some c.2 else firstError rest := rfl

/-- A check that only some commands make is reported where the command makes it and it fails. -/
theorem firstError_optional_append (b : Bool) (c : Bool × Detail) (rest : List (Bool × Detail)) :
    firstError ((if b = true then [c] else []) ++ rest) = if b = true ∧ c.1 = true then some c.2 else firstError rest := by
  cases b with
  | false => simp
  | true => simp [firstError_cons]

/-- R286: steps 4, 5 and 6 in their order, each for the commands of its column, before a command's own checks. -/
theorem firstError_staticChecks (i : Instr) (s : State) :
    firstError (staticChecks i s) =
      if needsChain i = true ∧ s.configured = false then some .notConfigured
      else if isDeviceCommand i = true ∧ devCount s ≤ i.dev then some .devIndex
      else if readsTx i = true ∧ s.cfg.maxSeqBits < txCount s then some .txLen
      else firstError (ownChecks i s) := by
  rw [staticChecks, List.append_assoc, List.append_assoc]
  simp only [firstError_optional_append, checkConfigured, checkDev, checkTxLen, Bool.not_eq_true', decide_eq_true_eq]

section
variable {i : Instr} {s : State} {d : Nat}

theorem firstError_staticChecks_notConfigured (hi : needsChain i = true) (hconf : s.configured = false) :
    firstError (staticChecks i s) = some .notConfigured := by
  rw [firstError_staticChecks, if_pos ⟨hi, hconf⟩]

theorem firstError_staticChecks_devIndex (hi : isDeviceCommand i = true) (hconf : s.configured = true)
    (hdev : devCount s ≤ i.dev) : firstError (staticChecks i s) = some .devIndex := by
  rw [firstError_staticChecks, if_neg (by simp [hconf]), if_pos ⟨hi, hdev⟩]

theorem firstError_staticChecks_txLen (hi : readsTx i = true) (hconf : s.configured = true) (hdev : i.dev < devCount s)
    (hlen : s.cfg.maxSeqBits < txCount s) : firstError (staticChecks i s) = some .txLen := by
  rw [firstError_staticChecks, if_neg (by simp [hconf]), if_neg (by simp [hdev]), if_pos ⟨hi, hlen⟩]

/-- R286: past steps 4 to 6 the command's own checks decide. -/
theorem firstError_staticChecks_own (hconf : s.configured = true) (hdev : i.dev < devCount s)
    (hlen : readsTx i = true → txCount s ≤ s.cfg.maxSeqBits) :
    firstError (staticChecks i s) = firstError (ownChecks i s) := by
  rw [firstError_staticChecks, if_neg (by simp [hconf]), if_neg (by simp [hdev]),
    if_neg fun ⟨hi, hover⟩ => Nat.not_lt.mpr (hlen hi) hover]

/-! ### The commands of each column -/

theorem needsChain_iff : needsChain i = true ↔ i ≠ .loadChain i.dev ∧ i ≠ .clearChain i.dev := by
  cases i <;> simp [needsChain, Instr.dev]

/-- The ten device commands on device `d` (`mem_deviceCommands`). -/
def deviceCommands (d : Nat) : List Instr :=
  [.deviceView d, .writeIr d, .readWriteIr d, .verifyIrCapture d, .writeDr d, .readWriteDr d, .currentDrLength d,
    .verifyDrLength d, .checkDr d, .survey d]

/-- The six commands on device `d` that read TX (`mem_txCommands`). -/
def txCommands (d : Nat) : List Instr :=
  [.writeIr d, .readWriteIr d, .writeDr d, .readWriteDr d, .verifyDrLength d, .checkDr d]

/-- The four commands on device `d` whose operand is an IR value (`ownChecks_of_mem_irOperandCommands`). -/
def irOperandCommands (d : Nat) : List Instr :=
  [.writeIr d, .readWriteIr d, .verifyDrLength d, .checkDr d]

theorem mem_deviceCommands : i ∈ deviceCommands d ↔ isDeviceCommand i = true ∧ i.dev = d := by
  cases i <;> simp [deviceCommands, isDeviceCommand, Instr.dev]

theorem mem_txCommands : i ∈ txCommands d ↔ readsTx i = true ∧ i.dev = d := by
  cases i <;> simp [txCommands, readsTx, Instr.dev]

/-- Step 7: such a command's own checks begin with the operand's width. -/
theorem ownChecks_of_mem_irOperandCommands (hi : i ∈ irOperandCommands d) (s : State) :
    i.dev = d ∧ ∃ rest, ownChecks i s = checkIrWidth s d :: rest := by
  simp only [irOperandCommands, List.mem_cons, List.not_mem_nil, or_false] at hi
  rcases hi with rfl | rfl | rfl | rfl <;> exact ⟨rfl, _, rfl⟩

theorem firstError_irWidth (hwidth : txCount s ≠ irlen s d) (rest : List (Bool × Detail)) :
    firstError (checkIrWidth s d :: rest) = some .irWidth :=
  if_pos (decide_eq_true hwidth)

/-- Step 7 of VERIFY_IR_CAPTURE. -/
theorem firstError_ownChecks_irlenTooShort (hshort : irlen s d < 2) :
    firstError (ownChecks (.verifyIrCapture d) s) = some .irlenTooShort :=
  if_pos (decide_eq_true hshort)

/-- Step 7 of CHECK_DR, past the operand's width. -/
theorem firstError_ownChecks_expectCapacity (hwidth : txCount s = irlen s d) (hexpect : s.cfg.maxSeqBits < s.expect.toNat) :
    firstError (ownChecks (.checkDr d) s) = some .expectCapacity := by
  rw [ownChecks, firstError_cons, firstError_cons, checkIrWidth_passes hwidth, if_neg Bool.false_ne_true]
  exact if_pos (decide_eq_true hexpect)

/-! ### The checks run at the command's start (R286, R287) -/

/-- R286: every command's first stretch is guarded by exactly its static checks. -/
theorem exec_start_guarded (hpos : s.pos = .start) : ∃ k, exec i s = guarded (staticChecks i s) s k := by
  cases i with
  | clearChain d => exact ⟨_, rfl⟩
  | _ =>
    simp only [exec, execLoadChain, execDeviceCount, execTotalIrLength, execTotalDrLength, execDeviceView, execWriteIr,
      execReadWriteIr, execVerifyIrCapture, execWriteDr, execReadWriteDr, execCurrentDrLength, execVerifyDrLength,
      execCheckDr, execSurvey, hpos]
    exact ⟨_, rfl⟩

/-- R287: at its start a command raises the first failing check. -/
theorem exec_of_firstError {e : Detail} (hpos : s.pos = .start) (herr : firstError (staticChecks i s) = some e) :
    exec i s = .next (raise e s) := by
  obtain ⟨k, hk⟩ := exec_start_guarded (i := i) hpos
  rw [hk, guarded, herr]

end

/-- Settles O47: a command raises its first failing check, and `firstError_staticChecks` says which that is. -/
theorem staticErrorsInOrder : Obligations.StaticErrorsInOrder := by
  unfold Obligations.StaticErrorsInOrder
  intro i s d hpos fails deviceOk lengthOk
  have hfails : ∀ e, firstError (staticChecks i s) = some e → fails e := fun e herr => exec_of_firstError hpos herr
  refine ⟨hfails, ?_, ?_, ?_, ?_, ?_, ?_⟩
  · rintro hload hclear rfl hconf
    exact hfails _ (firstError_staticChecks_notConfigured (needsChain_iff.mpr ⟨hload, hclear⟩) hconf)
  · intro hi hconf hdev
    obtain ⟨hdevice, rfl⟩ := mem_deviceCommands.mp hi
    exact hfails _ (firstError_staticChecks_devIndex hdevice hconf hdev)
  · rintro hi ⟨hconf, hdev⟩ hlen
    obtain ⟨hreads, rfl⟩ := mem_txCommands.mp hi
    exact hfails _ (firstError_staticChecks_txLen hreads hconf hdev hlen)
  · rintro hi ⟨⟨hconf, hdev⟩, hlen⟩ hwidth
    obtain ⟨rfl, rest, hrest⟩ := ownChecks_of_mem_irOperandCommands hi s
    have hown := firstError_staticChecks_own hconf hdev fun _ => hlen
    exact hfails _ (hown.trans (hrest ▸ firstError_irWidth hwidth rest))
  · rintro rfl ⟨hconf, hdev⟩ hshort
    have hown := firstError_staticChecks_own (i := .verifyIrCapture d) hconf hdev nofun
    exact hfails _ (hown.trans (firstError_ownChecks_irlenTooShort hshort))
  · rintro rfl ⟨⟨hconf, hdev⟩, hlen⟩ hwidth hexpect
    have hown := firstError_staticChecks_own (i := .checkDr d) hconf hdev fun _ => hlen
    exact hfails _ (hown.trans (firstError_ownChecks_expectCapacity hwidth hexpect))

/-! ### What a command leaves alone (R289) -/

/-- `t` has what stands around the command in `s`: the parameters, the inputs to come, the driver, the bus value and OVERRUN. -/
structure KeepsSurroundings (s t : State) : Prop where
  cfg : t.cfg = s.cfg
  overrun : t.overrun = s.overrun
  inbox : t.inbox = s.inbox
  driver : t.driver = s.driver
  readData : t.readData = s.readData

section
variable {i : Instr} {s t : State}

theorem Stretch.keepsSurroundings (h : Stretch i s t) : KeepsSurroundings s t := by
  cases h <;> exact ⟨rfl, rfl, rfl, rfl, rfl⟩

/-- R52: a stretch of any other command than LOAD_CHAIN and CLEAR_CHAIN keeps CONFIGURED. -/
theorem Stretch.configured_eq (h : Stretch i s t) (hi : ∀ d, i ≠ .loadChain d ∧ i ≠ .clearChain d) :
    t.configured = s.configured := by
  rcases h.configured_cases with hkeep | ⟨-, -, ⟨-, d, hload⟩ | ⟨-, d, hclear⟩⟩
  · exact hkeep
  · exact absurd hload (hi d).1
  · exact absurd hclear (hi d).2

end

/-- Settles O50: each outcome of a stretch keeps the arguments, what stands around the command, and CONFIGURED. -/
theorem commandsLeaveArgumentsAlone : Obligations.CommandsLeaveArgumentsAlone := by
  unfold Obligations.CommandsLeaveArgumentsAlone
  intro i s t hexec
  have h : Stretch i s t := exec_stretch hexec
  obtain ⟨hcmd, htxLen, hidle, hexpect, hchainN, hbytes⟩ := h.keepsArguments
  obtain ⟨hcfg, hoverrun, hinbox, hdriver, hreadData⟩ := h.keepsSurroundings
  exact ⟨hcfg, hcmd, htxLen, hidle, hexpect, hchainN, hoverrun, hinbox, hdriver, hreadData, hbytes, h.configured_eq⟩

end Sys2Proof.Machine
end

section
/-! Late responses (R321): a response to a request that the reset abandoned finds no scan waiting, and one to an earlier request than
the last bears another serial number than the one the port takes (log 7). -/

namespace Sys2Proof.Machine

theorem portResponse_of_ne {serial : Nat} {s : State} (h : serial ≠ s.issued) (r : Response) :
    portResponse serial r s = s := by
  rcases portResponse_cases serial r s with ⟨_, hserial, -, -⟩ | ⟨-, hp⟩
  · exact absurd hserial h
  · exact hp

section
variable {s : State} {rest : List Input}

theorem step_reset (hin : s.inbox = .reset :: rest) : step s = .next (resetInput { s with inbox := rest }) := by
  rw [step, hin]

theorem step_respond {serial : Nat} {r : Response} (hin : s.inbox = .respond serial r :: rest) :
    step s = .next (portResponse serial r { s with inbox := rest }) := by
  rw [step, hin]

/-- R298, R321: in Idle a response is read from the inputs and changes nothing else, whichever request it answers. -/
theorem step_respond_idle {serial : Nat} {r : Response} (hin : s.inbox = .respond serial r :: rest)
    (hidle : s.phase = .idle) : step s = .next { s with inbox := rest } := by
  rw [step_respond hin, portResponse_idle (s := { s with inbox := rest }) hidle]

end

/-- Settles O18: the reset leaves the controller in Idle, where no scan waits for the response; after a later request the serial
number of an earlier one is not the last. -/
theorem lateResponsesAreDiscarded : Obligations.LateResponsesAreDiscarded := by
  unfold Obligations.LateResponsesAreDiscarded
  intro s r rest hin
  refine ⟨?_, fun u hlater => portResponse_of_ne hlater.ne r⟩
  calc runSteps 2 s = runSteps 1 (resetInput { s with inbox := .respond s.issued r :: rest }) :=
        runSteps_succ (step_reset hin) 1
    _ = step (resetInput { s with inbox := .respond s.issued r :: rest }) := runSteps_one _
    _ = .next { resetInput s with inbox := rest } := step_respond_idle rfl rfl

end Sys2Proof.Machine
end

section
/-! The words of E1 to E9 in 95_test_vectors.md. The legal ones are the words of the commands they name; the others are told apart by
the order of R129's two tests, so a reserved OP with a reserved bit set (E4, E7) is an opcode error. -/

namespace Sys2Proof

/-- Settles O4: E1, E2 and E9 are encoded commands; E3, E4, E7 and E8 have a reserved OP; E5 has a defined OP with RES0 set, and E6
one with RES1 set. -/
theorem specWordsDecode : Obligations.SpecWordsDecode := by
  unfold Obligations.SpecWordsDecode
  refine ⟨?e1, ?e2, ?e3, ?e4, ?e5, ?e6, ?e7, ?e8, ?e9⟩
  case e1 | e2 | e9 => exact decode_eq_command_iff_encode.mpr (by decide)
  case e3 | e4 | e7 | e8 => exact decode_eq_opcode_iff.mpr (by decide)
  case e5 => exact decode_eq_reservedField_iff.mpr ⟨by decide, .inl (by decide)⟩
  case e6 => exact decode_eq_reservedField_iff.mpr ⟨by decide, .inr (by decide)⟩

end Sys2Proof
end
